-- ==== Sys2Proof/Word.lean ====
section
/-! DEFINITION. The word types of the block (spec/00_scope.md R5, R6, R9). All values are unsigned and bit 0 is the
least significant bit (R9). -/
namespace Sys2Proof

/-- One byte of a transfer (R11). -/
abbrev Byte := BitVec 8

/-- A Display Register Word, `WORD_W` = 32 bits (R5, R83). -/
abbrev DisplayWord := BitVec 32

/-- A Symbol Code, `SYM_W` = 10 bits (R5, R81). -/
abbrev SymbolCode := BitVec 10

/-- What one Digit Value register holds, `DIGIT_REG_W` = 4 bits (R6, R22). -/
abbrev DigitCode := BitVec 4

/-- A command word, `CMD_W` = 16 bits (R6, R91). -/
abbrev CommandWord := BitVec 16

/-- The 64 bits of one bus frame `F` = `WA :: WB` (R56, R84). -/
abbrev Frame := BitVec 64

end Sys2Proof
end

