-- ==== Sys2Proof/Config.lean ====
section
/-! DEFINITION. What the spec leaves open and a model takes as an argument (spec/00_scope.md R6), and the free values.
Each `opaque` constant has no body: nothing can be proved of its value, so a theorem holds whatever it is. -/
namespace Sys2Proof

/-- The two senses of the receiver's latch that the spec admits (R6 `LATCH_SENSE`, R175, D15). -/
inductive LatchSense where
  /-- `Q` takes `SR` when the line rises. -/
  | risingEdge
  /-- `Q` follows `SR` while the line is high and holds while it is low. -/
  | levelHigh
deriving DecidableEq, Repr, Inhabited

/-- The number that stands for BLANK, `BLANK_CODE` = 10 (R6, R80, D3). -/
def Config.blankCode : DigitCode := 10

/-- `LATCH_RESET`, OPEN (R6, R26, R35, D11): the level of the latch line after reset. Log 3. -/
opaque Config.latchReset : Bool

/-- `LATCH_SENSE`, OPEN (R6, R175, D15); only the receiver reads it. Log 5. -/
opaque Config.latchSense : LatchSense

/-- What the receiver's shift register holds at the `n`-th time its contents are unspecified (R221, R222, D16): a free
value for each `n`. Log 4. -/
opaque Config.receiverSR : Nat → Frame

/-- What the receiver's output latch holds at the `n`-th time its contents are unspecified (R221, R222, D16): a free
value for each `n`. Log 4. -/
opaque Config.receiverQ : Nat → Frame

/-- `SYM(v)` for the values 11 to 15 that no register ever holds (R22, R52, U1): a free value. Log 6. -/
opaque Config.symOutOfRange : DigitCode → SymbolCode

end Sys2Proof
end

