-- ==== Sys2Proof/Machine/State.lean ====
section
/-! DEFINITION. The state of the block (spec/10_state.md R20), of the receiver on its bus (spec/42_serial_sequencer.md
R174) and of the host's command and reset ports (R161), and what each holds after reset (R35). -/
namespace Sys2Proof.Machine

/-- The six display positions NX1 (most significant) to NX6 (R21). -/
inductive Position where
  | nx1 | nx2 | nx3 | nx4 | nx5 | nx6
deriving DecidableEq, Repr

/-- The six Digit Value registers `D[1]` to `D[6]`, 4 bits each (R21, R22). -/
@[ext]
structure Digits where
  nx1 : DigitCode
  nx2 : DigitCode
  nx3 : DigitCode
  nx4 : DigitCode
  nx5 : DigitCode
  nx6 : DigitCode
deriving DecidableEq, Repr

/-- The output alphabet (R11); `bit` is the bit level's (R171). -/
inductive OutEvent where
  | latchLow
  | latchHigh
  | byte (b : Byte)
  | bit (x : Bool)
deriving DecidableEq, Repr

/-- The causes of the one exception, `InvalidArgument` (R190). -/
inductive Cause where
  | badValue
  | badPosition
  | badCommand
deriving DecidableEq, Repr

/-- The response to a command (R96). -/
inductive Response where
  | ok
  | invalidArg (c : Cause)
deriving DecidableEq, Repr

/-- The reference receiver: shift register `SR` and output latch `Q` (R174). -/
@[ext]
structure Receiver where
  sr : Frame
  q  : Frame
deriving DecidableEq, Repr

/-- Every piece of state the spec gives the machine (R20, R161, R174), and two fields of the model's own, `pending` and
`draws`. -/
@[ext]
structure State where
  /-- `D[1]`..`D[6]` (R21). -/
  d : Digits
  /-- `DOTS`, the Dot State (R24). -/
  dots : Bool
  /-- `WA`, Display Register Word A (R25). -/
  wa : DisplayWord
  /-- `WB`, Display Register Word B (R25). -/
  wb : DisplayWord
  /-- `LATCH`, the level of the latch line (R26). -/
  latch : Bool
  /-- `ERR`, sticky (R29). -/
  err : Bool
  /-- `CAUSE`, the code of the most recent rejection, 0 for none (R29). -/
  cause : BitVec 2
  /-- `OUT`, every output event since reset, oldest first (R32). -/
  out : List OutEvent
  /-- `ph`, the sequencer's phase (R27, R160). -/
  ph : BitVec 4
  /-- `SHB`, the byte being shifted out (R31, R171). -/
  shb : Byte
  /-- `bc`, the number of bits of `SHB` already sent (R31, R171). -/
  bc : BitVec 4
  /-- `SDO`, the serial data line (R31, R171). -/
  sdo : Bool
  /-- `SCK`, the serial clock line (R31, R171). -/
  sck : Bool
  /-- `RESP` with `RESP_VALID` (R96, R161): the response given in the step just taken, if it gave one. Log 8. -/
  resp : Option Response
  /-- The receiver on the bus (R174). -/
  rx : Receiver
  /-- `RST`, the level of the reset input (R161, R220), driven from outside. Log 9. -/
  rst : Bool
  /-- The model's own: the command words the host has yet to issue, in order (R8, R33 b). Log 1. -/
  pending : List CommandWord
  /-- The model's own: how many times the receiver's contents were drawn as free values. Log 4. -/
  draws : Nat
deriving DecidableEq, Repr

/-- Why a step can stop with a fault. -/
inductive Fault where
  /-- Raised by the sequencer's step when `ph` is 13, 14 or 15, values that are "never reached" (R27, R160) and that
  `step` keeps from being reached. Safe: the model stops where the spec gives no row. Log 11. -/
  | illegalPhase
deriving DecidableEq, Repr

/-- Why a step can be refused. -/
inductive Refusal where
  /-- The instruction has no meaning in this model. No arm of `exec` answers it: every command is modelled. Safe. -/
  | notModelled (mnemonic : String)
deriving DecidableEq, Repr

/-- The answer of a step of this machine. -/
abbrev Answer := Host.Outcome State Fault Refusal

/-- All six positions BLANK (R35, D10). -/
def Digits.allBlank : Digits :=
  { nx1 := Config.blankCode, nx2 := Config.blankCode, nx3 := Config.blankCode,
    nx4 := Config.blankCode, nx5 := Config.blankCode, nx6 := Config.blankCode }

/-- The receiver at power-up: unspecified contents (R35, R174, R221), the free values of draw 0; with the level-high
sense and the line already high, `Q` follows `SR` (R175). Log 4, log 5. -/
def Receiver.atPowerUp : Receiver :=
  { sr := Config.receiverSR 0
    q := if Config.latchReset = true ∧ Config.latchSense = .levelHigh then Config.receiverSR 0
         else Config.receiverQ 0 }

/-- The machine right after reset (R35, R220). -/
def State.reset : State :=
  { d := Digits.allBlank, dots := false, wa := 0, wb := 0, latch := Config.latchReset, err := false, cause := 0,
    out := [], ph := 0, shb := 0, bc := 0, sdo := false, sck := false, resp := none, rx := Receiver.atPowerUp,
    rst := false, pending := [], draws := 1 }

end Sys2Proof.Machine
end

