-- ==== Sys2Proof/Machine/Flags.lean ====
section
/-! DEFINITION. The error flags, the response codes, the ports that are functions of the state, and the `STATUS` bus
(spec/10_state.md R28 to R30; spec/30_encoding.md R96; spec/42_serial_sequencer.md R161). The block has no condition
codes (R24). -/
namespace Sys2Proof.Machine

/-- The code of a cause (R190). -/
def Cause.code : Cause → BitVec 2
  | .badValue => 1
  | .badPosition => 2
  | .badCommand => 3

/-- The response code on `RESP` (R96). -/
def Response.code : Response → BitVec 2
  | .ok => 0
  | .invalidArg c => c.code

/-- `BUSY` (R28). -/
def State.busy (s : State) : Bool := s.ph != 0

/-- The port `CMD_READY` (R161). -/
def State.cmdReady (s : State) : Bool := !s.busy

/-- The port `CMD_VALID` (R161): the host presents a command whenever it has one left. -/
def State.cmdValid (s : State) : Bool := !s.pending.isEmpty

/-- The port `CMD` (R161): the word the host presents, which it keeps stable until it is accepted (R227). -/
def State.cmd? (s : State) : Option CommandWord := s.pending.head?

/-- The port `RESP_VALID` (R161). -/
def State.respValid (s : State) : Bool := s.resp.isSome

/-- The port `RESP` (R96, R161); it carries a code only while `RESP_VALID` is 1. -/
def State.respCode? (s : State) : Option (BitVec 2) := s.resp.map Response.code

/-- The read-only output bus `STATUS` (R30): 7:6 reserved 0, 5 `LATCH`, 4 `DOTS`, 3:2 `CAUSE`, 1 `ERR`, 0 `BUSY`. -/
def State.status (s : State) : BitVec 8 :=
  0#2 ++ (BitVec.ofBool s.latch ++ (BitVec.ofBool s.dots ++ (s.cause ++ (BitVec.ofBool s.err ++ BitVec.ofBool s.busy))))

end Sys2Proof.Machine
end

