-- ==== Sys2Proof/Machine/Operands.lean ====
section
/-! DEFINITION. The operands of the commands (spec/30_encoding.md R80, R92; spec/20_memory.md R51): which position a
number names, and which Digit Value. -/
namespace Sys2Proof.Machine

/-- The number of a position: `D[p]` is at NX`p`, counted from 1 (R21, R51). -/
def Position.number : Position → Nat
  | .nx1 => 1
  | .nx2 => 2
  | .nx3 => 3
  | .nx4 => 4
  | .nx5 => 5
  | .nx6 => 6

/-- The position a number names; 0 and 7 and above name none (R51, R192). -/
def positionOf : Nat → Option Position
  | 1 => some .nx1
  | 2 => some .nx2
  | 3 => some .nx3
  | 4 => some .nx4
  | 5 => some .nx5
  | 6 => some .nx6
  | _ => none

/-- The Digit Value a number stands for, as stored: `v[3:0]` for 0..10, none above (R80, R110). -/
def digitOf (v : Nat) : Option DigitCode := if v ≤ 10 then some (BitVec.ofNat 4 v) else none

/-- `D[p]`, the read of a Digit Value register (R10). -/
def Digits.get (d : Digits) : Position → DigitCode
  | .nx1 => d.nx1
  | .nx2 => d.nx2
  | .nx3 => d.nx3
  | .nx4 => d.nx4
  | .nx5 => d.nx5
  | .nx6 => d.nx6

/-- `D[p] <- v`, the write of a Digit Value register (R10). -/
def Digits.set (d : Digits) (p : Position) (v : DigitCode) : Digits :=
  match p with
  | .nx1 => { d with nx1 := v }
  | .nx2 => { d with nx2 := v }
  | .nx3 => { d with nx3 := v }
  | .nx4 => { d with nx4 := v }
  | .nx5 => { d with nx5 := v }
  | .nx6 => { d with nx6 := v }

end Sys2Proof.Machine
end

