-- ==== Sys2Proof/Machine/Receiver.lean ====
section
/-! DEFINITION. The reference receiver on the bus (spec/42_serial_sequencer.md R173 to R176): its steps at the event
level and at the level of the three lines, and what the display shows. -/
namespace Sys2Proof.Machine

/-- While the latch line is at level `latch`, a level-high receiver's `Q` follows `SR` (R175). -/
def Receiver.follow (sense : LatchSense) (latch : Bool) (r : Receiver) : Receiver :=
  if latch = true ∧ sense = .levelHigh then { r with q := r.sr } else r

/-- On `Bit(x)`: `SR <- ((SR << 1) | zext_64(x))[63:0]` (R175). -/
def Receiver.shiftBit (x : Bool) (r : Receiver) : Receiver :=
  { r with sr := (r.sr <<< 1) ||| (BitVec.ofBool x).zeroExtend 64 }

/-- The bits of a byte in the order they are sent, bit 7 first (R55, R171). -/
def byteBits (b : Byte) : List Bool :=
  [b.getLsbD 7, b.getLsbD 6, b.getLsbD 5, b.getLsbD 4, b.getLsbD 3, b.getLsbD 2, b.getLsbD 1, b.getLsbD 0]

/-- On `Byte(b)`: the eight `Bit` steps (R175). -/
def Receiver.shiftByte (b : Byte) (r : Receiver) : Receiver :=
  (byteBits b).foldl (fun r x => r.shiftBit x) r

/-- On `LatchHigh`: `Q <- SR` (R175). -/
def Receiver.commit (r : Receiver) : Receiver := { r with q := r.sr }

/-- The receiver's step on one output event, the latch line being at `latch` when it happens (R175). -/
def Receiver.onEvent (sense : LatchSense) (latch : Bool) (e : OutEvent) (r : Receiver) : Receiver :=
  match e with
  | .latchLow => r
  | .latchHigh => r.commit
  | .byte b => (r.shiftByte b).follow sense latch
  | .bit x => (r.shiftBit x).follow sense latch

/-- The level of the latch line after an event (R26). -/
def levelAfter (latch : Bool) : OutEvent → Bool
  | .latchLow => false
  | .latchHigh => true
  | .byte _ => latch
  | .bit _ => latch

/-- The receiver listening to a list of events, the line starting at `latch` (R175). -/
def Receiver.listen (sense : LatchSense) : Bool → List OutEvent → Receiver → Receiver
  | _, [], r => r
  | latch, e :: es, r => Receiver.listen sense (levelAfter latch e) es (r.onEvent sense (levelAfter latch e) e)

/-- The three output lines the receiver is wired to (R161). -/
structure Lines where
  latch : Bool
  sdo : Bool
  sck : Bool
deriving DecidableEq, Repr

/-- The levels of the lines in a state. -/
def State.lines (s : State) : Lines := { latch := s.latch, sdo := s.sdo, sck := s.sck }

/-- The receiver at signal level (R173, R175): it takes `SDO` at each 0-to-1 change of `SCK`, and its latch works on the
level or the 0-to-1 change of the latch line. Log 15. -/
def Receiver.onLines (sense : LatchSense) (before after : Lines) (r : Receiver) : Receiver :=
  let r1 := if before.sck = false ∧ after.sck = true then r.shiftBit after.sdo else r
  let r2 := if before.latch = false ∧ after.latch = true then r1.commit else r1
  r2.follow sense after.latch

/-- The receiver watching the lines go through a list of levels, from `before` on. -/
def Receiver.watch (sense : LatchSense) : Lines → List Lines → Receiver → Receiver
  | _, [], r => r
  | before, l :: ls, r => Receiver.watch sense l ls (r.onLines sense before l)

/-- The frame bit of code bit 0 of a position (R56). -/
def fieldOffset : Position → Nat
  | .nx4 => 52
  | .nx5 => 42
  | .nx6 => 32
  | .nx1 => 20
  | .nx2 => 10
  | .nx3 => 0

/-- Whether the output latch drives cathode `k` of a position (R56, R176). -/
def cathodeOn (q : Frame) (p : Position) (k : Fin 10) : Bool := q.getLsbD (fieldOffset p + k.val)

/-- The four dot outputs, frame bits 63, 62, 31 and 30 (R56). -/
def dotOutputs (q : Frame) : List Bool := [q.getLsbD 63, q.getLsbD 62, q.getLsbD 31, q.getLsbD 30]

end Sys2Proof.Machine
end

