-- ==== Sys2Proof/Machine/Ops.lean ====
section
/-! DEFINITION. The operations the commands share: the mapper and the packer (spec/41_render.md R131, R132), output
events (spec/00_scope.md R10, R11), the latch line, responses, and the one exception (spec/60_exceptions.md R194). There
is no byte-addressed memory to read or write (R50). -/
namespace Sys2Proof.Machine

/-- `BYTE(w, k)`: `w[8k+7:8k]` (R10). -/
def byteOf (w : DisplayWord) (k : Nat) : Byte := w.extractLsb' (8 * k) 8

/-- `SYM(v)` (R81): `(1 << v)[9:0]` for 0..9, 0 for BLANK. A value above 10 is never stored (R22), and its code is a
free value (R52, log 6). -/
def sym (v : DigitCode) : SymbolCode :=
  if v ≤ 9 then 1#10 <<< v.toNat else if v = Config.blankCode then 0 else Config.symOutOfRange v

/-- `PACK(c0, c1, c2, dot)` (R132). -/
def pack (c0 c1 c2 : SymbolCode) (dot : Bool) : DisplayWord :=
  c0.zeroExtend 32 ||| (c1.zeroExtend 32 <<< 10) ||| (c2.zeroExtend 32 <<< 20)
    ||| ((BitVec.ofBool dot).zeroExtend 32 <<< 30) ||| ((BitVec.ofBool dot).zeroExtend 32 <<< 31)

/-- Word A of a display state: NX6, NX5, NX4 from the low field up (R133). -/
def wordA (d : Digits) (dots : Bool) : DisplayWord := pack (sym (d.get .nx6)) (sym (d.get .nx5)) (sym (d.get .nx4)) dots

/-- Word B of a display state: NX3, NX2, NX1 from the low field up (R134). -/
def wordB (d : Digits) (dots : Bool) : DisplayWord := pack (sym (d.get .nx3)) (sym (d.get .nx2)) (sym (d.get .nx1)) dots

/-- The frame `F` = `WA :: WB` (R56). -/
def frameOf (wa wb : DisplayWord) : Frame := wa ++ wb

/-- `Emit(e)` (R10): append the event to `OUT`; the receiver on the bus hears it (R175). -/
def emit (e : OutEvent) (s : State) : State :=
  { s with out := s.out ++ [e], rx := s.rx.onEvent Config.latchSense s.latch e }

/-- `LATCH <- 0 ; Emit(LatchLow)` (R130 step 1, R136). -/
def lowerLatch (s : State) : State := emit .latchLow { s with latch := false }

/-- `LATCH <- 1 ; Emit(LatchHigh)` (R130 step 6, R136). -/
def raiseLatch (s : State) : State := emit .latchHigh { s with latch := true }

/-- `WA <- PACK(SYM(D[6]), SYM(D[5]), SYM(D[4]), DOTS)` (R133), one whole write (R25). -/
def buildA (s : State) : State := { s with wa := wordA s.d s.dots }

/-- `WB <- PACK(SYM(D[3]), SYM(D[2]), SYM(D[1]), DOTS)` (R134), one whole write (R25). -/
def buildB (s : State) : State := { s with wb := wordB s.d s.dots }

/-- Sending a word: its four bytes, most significant first (R53, R135). -/
def sendWord (w : DisplayWord) (s : State) : State :=
  emit (.byte (byteOf w 0)) (emit (.byte (byteOf w 1)) (emit (.byte (byteOf w 2)) (emit (.byte (byteOf w 3)) s)))

/-- `respond(r)` (R10, R96). -/
def respond (r : Response) (s : State) : State := { s with resp := some r }

/-- `raise InvalidArgument(c)`, the one exception of the block, taken (R194): `ERR <- 1`, `CAUSE <- c`, respond, and
nothing else. There is no handler and hence no return from it (R197). -/
def reject (c : Cause) (s : State) : State := respond (.invalidArg c) { s with err := true, cause := c.code }

/-- `RESP_VALID` pulses: a step that gives no response ends the last one (R161, log 8). -/
def endResponse (s : State) : State := { s with resp := none }

/-- `D[p] <- v` (R10, R110). -/
def writeDigit (p : Position) (v : DigitCode) (s : State) : State := { s with d := s.d.set p v }

/-- `DOTS <- e` (R112). -/
def writeDots (e : Bool) (s : State) : State := { s with dots := e }

end Sys2Proof.Machine
end

