-- ==== Sys2Proof/Machine/Reset.lean ====
section
/-! DEFINITION. The reset input (spec/70_reset_and_hazards.md R220 to R222). -/
namespace Sys2Proof.Machine

/-- The receiver's contents drawn afresh as free values, the line being at `LATCH_RESET` (R221, R222). Log 4. -/
def Receiver.unspecified (n : Nat) : Receiver :=
  Receiver.follow Config.latchSense Config.latchReset { sr := Config.receiverSR n, q := Config.receiverQ n }

/-- A step with `RST` asserted (R220, R222): the block's state is that of R35 and no event is emitted. Reset does not reach
the receiver (R221): between renders it only sees its lines go to their reset levels; a render that is abandoned leaves
it unspecified (R222). The host's words stay pending. Log 9. -/
def resetStep (s : State) : State :=
  { State.reset with
    rx := if s.ph = 0 then s.rx.onLines Config.latchSense s.lines State.reset.lines else Receiver.unspecified s.draws
    draws := if s.ph = 0 then s.draws else s.draws + 1
    rst := s.rst
    pending := s.pending }

end Sys2Proof.Machine
end

