-- ==== Sys2Proof/Syntax.lean ====
section
/-! DEFINITION. The abstract syntax of the commands (spec/30_encoding.md R90) and of the assembler's source forms
(R97, R98). -/
namespace Sys2Proof

/-- The three commands of R90, one constructor per row of spec/opcode_table.json. Operands are numbers and a boolean,
as R90 has them; which numbers a command word can carry is `Instr.WellFormed`, and which of those the block accepts is
the command's own rule (R92). -/
inductive Instr where
  /-- `SETDIGIT p, v` (R110): store Digit Value `v` at position `p`. -/
  | setdigit (p v : Nat)
  /-- `SETDOTS e` (R112): store the Dot State. -/
  | setdots (e : Bool)
  /-- `RENDER` (R130): send the current state to the display. -/
  | render
deriving DecidableEq, Repr

/-- What one source line of the assembler stands for: a command, one of the six pseudo-instructions of R98, or a raw
word (`.word`, used by Program 3 of spec/95_test_vectors.md, log 16). -/
inductive Source where
  | instr (i : Instr)
  /-- `BLANKDIGIT p` -/
  | blankDigit (p : Nat)
  /-- `DOTSON` -/
  | dotsOn
  /-- `DOTSOFF` -/
  | dotsOff
  /-- `SETALL v1, v2, v3, v4, v5, v6` -/
  | setAll (v1 v2 v3 v4 v5 v6 : Nat)
  /-- `SHOW v1, v2, v3, v4, v5, v6` -/
  | show (v1 v2 v3 v4 v5 v6 : Nat)
  /-- `BLANKALL` -/
  | blankAll
  /-- `.word n` -/
  | word (n : Nat)
deriving DecidableEq, Repr

end Sys2Proof
end

