-- ==== Sys2Proof/WellFormed.lean ====
section
/-! DEFINITION. Which commands a 16-bit command word can carry (spec/30_encoding.md R91, R92, R97): the position in 4
bits, the Digit Value number in 8. A well-formed `SETDIGIT` may still be one the block rejects (R92). -/
namespace Sys2Proof

/-- The position fits the field `pos` (R91, R92: a number in 0..15). -/
abbrev positionFits (p : Nat) : Prop := p < 16

/-- The Digit Value number fits the field `val` (R91, R92: a number in 0..255). -/
abbrev valueFits (v : Nat) : Prop := v < 256

/-- R97: numbers that do not fit their field (`p` > 15, `v` > 255) cannot be encoded. -/
def Instr.wellFormed : Instr → Bool
  | .setdigit p v => decide (positionFits p) && decide (valueFits v)
  | .setdots _ => true
  | .render => true

/-- The command fits a command word. -/
abbrev Instr.WellFormed (i : Instr) : Prop := i.wellFormed = true

end Sys2Proof
end

