-- ==== Sys2Proof/Decode.lean ====
section
/-! DEFINITION. The command word (spec/30_encoding.md R91 to R95): decoding, total on the 65 536 words, and encoding. -/
namespace Sys2Proof

/-- Why a word is `ILLEGAL`: the first three rows of R94. -/
inductive Illegal where
  /-- `op` is 0 or 4..15. -/
  | unknownOp
  /-- `op` is 2 and `pos` or `val[7:1]` is not 0. -/
  | setdotsReserved
  /-- `op` is 3 and `pos` or `val` is not 0. -/
  | renderReserved
deriving DecidableEq, Repr

/-- What a word decodes to (R93): one of the three commands, or `ILLEGAL`. -/
inductive Decoded where
  | command (i : Instr)
  | illegal (why : Illegal)
deriving DecidableEq, Repr

/-- The field `op`, bits 15:12 (R91). -/
def opField (w : CommandWord) : BitVec 4 := w.extractLsb' 12 4

/-- The field `pos`, bits 11:8 (R91). -/
def posField (w : CommandWord) : BitVec 4 := w.extractLsb' 8 4

/-- The field `val`, bits 7:0 (R91). -/
def valField (w : CommandWord) : BitVec 8 := w.extractLsb' 0 8

/-- Decoding (R91 to R94). Operand assembly is zero extension only; the legality of `p` and `v` is not part of decoding
(R92). -/
def decode (w : CommandWord) : Decoded :=
  if opField w = 1 then .command (.setdigit (posField w).toNat (valField w).toNat)
  else if opField w = 2 then
    if posField w = 0 ∧ (valField w).extractLsb' 1 7 = 0 then .command (.setdots ((valField w).getLsbD 0))
    else .illegal .setdotsReserved
  else if opField w = 3 then
    if posField w = 0 ∧ valField w = 0 then .command .render else .illegal .renderReserved
  else .illegal .unknownOp

/-- The command a word is, if it is one. -/
def Decoded.instr? : Decoded → Option Instr
  | .command i => some i
  | .illegal _ => none

/-- Encoding (R91): `op :: pos :: val`. An operand that does not fit its field (`Instr.WellFormed`) loses its high bits. -/
def encode : Instr → CommandWord
  | .setdigit p v => (1#4 ++ BitVec.ofNat 4 p) ++ BitVec.ofNat 8 v
  | .setdots e => (2#4 ++ 0#4) ++ (0#7 ++ BitVec.ofBool e)
  | .render => (3#4 ++ 0#4) ++ 0#8

/-- The command word whose bits are the low `nbits` bits of `w`, numbered as spec/opcode_table.json numbers them. A
command is one word, so there is no word order to settle (R95). -/
def tableWord (nbits w : Nat) : CommandWord := BitVec.ofNat 16 (w % 2 ^ nbits)

/-- The instruction the decoder reads from an instruction whose bits are `w`. -/
def decodeTableWord (nbits w : Nat) : Option Instr := (decode (tableWord nbits w)).instr?

end Sys2Proof
end

