-- ==== Sys2Proof/Machine/Render.lean ====
section
/-! DEFINITION. The `RENDER` command at the command level, which is the normative one (spec/00_scope.md R7;
spec/41_render.md R130). -/
namespace Sys2Proof.Machine

/-- Step 1 of the render, and step 2: the latch is lowered, then word A is built (R130). -/
def renderOpen (s : State) : State := buildA (lowerLatch s)

/-- Steps 3 and 4: word A is sent, then word B is built (R130). -/
def renderMiddle (s : State) : State := buildB (sendWord s.wa s)

/-- Steps 5 and 6: word B is sent, then the latch is raised (R130). -/
def renderClose (s : State) : State := raiseLatch (sendWord s.wb s)

/-- `RENDER` (R130): the document's six steps in order, then the response. -/
def execRender (s : State) : Answer := .next (respond .ok (renderClose (renderMiddle (renderOpen s))))

end Sys2Proof.Machine
end

