-- ==== Sys2Proof/Machine/Update.lean ====
section
/-! DEFINITION. The state-update commands (spec/40_state_update.md). Neither emits an output event. -/
namespace Sys2Proof.Machine

/-- `SETDIGIT p, v` (R110): the position is checked first, then the value (R193). -/
def execSetdigit (p v : Nat) (s : State) : Answer :=
  match positionOf p with
  | none => .next (reject .badPosition s)
  | some q =>
    match digitOf v with
    | none => .next (reject .badValue s)
    | some x => .next (respond .ok (writeDigit q x s))

/-- `SETDOTS e` (R112). -/
def execSetdots (e : Bool) (s : State) : Answer := .next (respond .ok (writeDots e s))

end Sys2Proof.Machine
end

