-- ==== Sys2Proof/Machine/Dispatch.lean ====
section
/-! DEFINITION. What each command does once the block has accepted it (spec/30_encoding.md R90). -/
namespace Sys2Proof.Machine

/-- One arm per command. -/
def exec (i : Instr) (s : State) : Host.Outcome State Fault Refusal :=
  match i with
  | .setdigit p v => Sys2Proof.Machine.execSetdigit p v s
  | .setdots e => Sys2Proof.Machine.execSetdots e s
  | .render => Sys2Proof.Machine.execRender s

end Sys2Proof.Machine
end

