-- ==== Sys2Proof/Machine/Sequencer.lean ====
section
/-! DEFINITION. The serial output sequencer and the acceptance of commands (spec/42_serial_sequencer.md R160 to R166), and
the micro-step machine, in which a render takes one accept step and twelve sequencer steps (R7). -/
namespace Sys2Proof.Machine

/-- `SHB <- b ; Emit(Byte(SHB))`, a sending row of R160. -/
def sendByte (b : Byte) (s : State) : State := emit (.byte b) { s with shb := b }

/-- The action of one row of R160, by phase number; phase 0 has none, and 13 to 15 have no row. -/
def rowAction (ph : Nat) (s : State) : Option State :=
  match ph with
  | 1 => some (lowerLatch s)
  | 2 => some (buildA s)
  | 3 => some (sendByte (byteOf s.wa 3) s)
  | 4 => some (sendByte (byteOf s.wa 2) s)
  | 5 => some (sendByte (byteOf s.wa 1) s)
  | 6 => some (sendByte (byteOf s.wa 0) s)
  | 7 => some (buildB s)
  | 8 => some (sendByte (byteOf s.wb 3) s)
  | 9 => some (sendByte (byteOf s.wb 2) s)
  | 10 => some (sendByte (byteOf s.wb 1) s)
  | 11 => some (sendByte (byteOf s.wb 0) s)
  | 12 => some (respond .ok (raiseLatch s))
  | _ => none

/-- The phase after `ph`: one more, and 0 after 12 (R27, R160). -/
def nextPhase (ph : BitVec 4) : BitVec 4 := if ph = 12 then 0 else ph + 1

/-- The phase moves on. -/
def advancePhase (s : State) : State := { s with ph := nextPhase s.ph }

/-- The sequencer's step (R164), for a state with `ph` not 0: the action of the row for `ph`, then the row's next phase. -/
def sequencerStep (s : State) : Answer :=
  match rowAction s.ph.toNat (endResponse s) with
  | some t => .next (advancePhase t)
  | none => .fault .illegalPhase

/-- A cycle in which the host presents no command: the block waits, its state constant (R34, R220, log 10). -/
def idleStep (s : State) : State := endResponse s

/-- The block takes the word the host presents; the rest of the host's words stay pending (R161, R162). -/
def takeCommand (rest : List CommandWord) (s : State) : State := { endResponse s with pending := rest }

/-- The whole of the word that the host presented, at the command level: a command is carried out, an `ILLEGAL` word is
rejected (R94, R162). -/
def runWord (w : CommandWord) (s : State) : Answer :=
  match decode w with
  | .command i => exec i s
  | .illegal _ => .next (reject .badCommand s)

/-- Accepting `RENDER` at the micro-step level: `ph <- 1` and nothing else, the response coming later (R162). -/
def startRender (s : State) : State := { s with ph := 1 }

/-- Accepting a command at the micro-step level (R162). -/
def acceptCommand (i : Instr) (s : State) : Answer :=
  match i with
  | .setdigit p v => exec (.setdigit p v) s
  | .setdots e => exec (.setdots e) s
  | .render => .next (startRender s)

/-- The word the host presented, at the micro-step level (R162). -/
def acceptWord (w : CommandWord) (s : State) : Answer :=
  match decode w with
  | .command i => acceptCommand i s
  | .illegal _ => .next (reject .badCommand s)

/-- The host's step (R162): `run` says what becomes of the word that is taken. -/
def hostStep (run : CommandWord → State → Answer) (s : State) : Answer :=
  match s.pending with
  | [] => .next (idleStep s)
  | w :: rest => run w (takeCommand rest s)

end Sys2Proof.Machine
end

