-- ==== Sys2Proof/Machine/Step.lean ====
section
/-! DEFINITION. One step of the machine. Exactly one agent is enabled in any state (spec/42_serial_sequencer.md R166): the
reset input, or the sequencer when `ph` is not 0 (R164), or the host when it is 0 (R162). -/
namespace Sys2Proof.Machine

/-- One step, given what becomes of a word the block accepts. -/
def stepWith (run : CommandWord → State → Answer) (s : State) : Answer :=
  if s.rst = true then .next (resetStep s)
  else if s.ph = 0 then hostStep run s
  else sequencerStep s

/-- One step at the command level, the normative one (R7): a command is one atomic transition. -/
def step (s : State) : Host.Outcome State Fault Refusal := stepWith runWord s

/-- One step at the micro-step level (R7, R162, R164): `RENDER` is accepted in one step and carried out in twelve. -/
def microStep (s : State) : Answer := stepWith acceptWord s

/-- `s` with the instruction whose bits are `w` presented as the host's next word, and the block ready to take it: not in
reset and in phase 0. Log 1. -/
def State.withFetchWord (s : State) (nbits w : Nat) : State :=
  { s with rst := false, ph := 0, pending := tableWord nbits w :: s.pending }

end Sys2Proof.Machine
end

