-- ==== Sys2Proof/Machine/Assembler.lean ====
section
/-! DEFINITION. The assembler syntax and the pseudo-instructions (spec/30_encoding.md R97, R98). Log 16 lists what R97
leaves open. -/
namespace Sys2Proof.Machine

/-- The number of BLANK in a source line (R80, R97). -/
def blankNumber : Nat := Config.blankCode.toNat

/-- The commands a source form stands for (R98); `.word` stands for none. -/
def expand : Source → List Instr
  | .instr i => [i]
  | .blankDigit p => [.setdigit p blankNumber]
  | .dotsOn => [.setdots true]
  | .dotsOff => [.setdots false]
  | .setAll v1 v2 v3 v4 v5 v6 =>
    [.setdigit 1 v1, .setdigit 2 v2, .setdigit 3 v3, .setdigit 4 v4, .setdigit 5 v5, .setdigit 6 v6]
  | .show v1 v2 v3 v4 v5 v6 =>
    [.setdigit 1 v1, .setdigit 2 v2, .setdigit 3 v3, .setdigit 4 v4, .setdigit 5 v5, .setdigit 6 v6, .render]
  | .blankAll =>
    [.setdigit 1 blankNumber, .setdigit 2 blankNumber, .setdigit 3 blankNumber, .setdigit 4 blankNumber,
      .setdigit 5 blankNumber, .setdigit 6 blankNumber]
  | .word _ => []

/-- The words of a list of commands; a number that does not fit its field is an assembler error (R97). -/
def encodeAll : List Instr → Option (List CommandWord)
  | [] => some []
  | i :: is => if i.WellFormed then (encodeAll is).map (encode i :: ·) else none

/-- The words of a source form (R97, R98). The assembler checks that a number fits its field, not that it is legal. -/
def assembleSource : Source → Option (List CommandWord)
  | .word n => if n < 65536 then some [BitVec.ofNat 16 n] else none
  | .instr i => encodeAll (expand (.instr i))
  | .blankDigit p => encodeAll (expand (.blankDigit p))
  | .dotsOn => encodeAll (expand .dotsOn)
  | .dotsOff => encodeAll (expand .dotsOff)
  | .setAll v1 v2 v3 v4 v5 v6 => encodeAll (expand (.setAll v1 v2 v3 v4 v5 v6))
  | .show v1 v2 v3 v4 v5 v6 => encodeAll (expand (.show v1 v2 v3 v4 v5 v6))
  | .blankAll => encodeAll (expand .blankAll)

/-- A space or a tab. -/
def isGap (c : Char) : Bool := c == ' ' || c == '\t' || c == '\r'

/-- The line without its comment: a comment runs from `;` to the end of the line (R97). -/
def withoutComment (cs : List Char) : List Char := cs.takeWhile (· != ';')

/-- A token without the gaps around it. -/
def trimmed (cs : List Char) : List Char := ((cs.dropWhile isGap).reverse.dropWhile isGap).reverse

/-- The parts of a text between separators; always at least one. -/
def splitAt (sep : Char) : List Char → List (List Char)
  | [] => [[]]
  | c :: cs =>
    if c == sep then [] :: splitAt sep cs
    else match splitAt sep cs with
      | [] => [[c]]
      | part :: parts => (c :: part) :: parts

/-- A digit of a decimal or hexadecimal number. -/
def digitValue (base : Nat) (c : Char) : Option Nat :=
  let n := c.toNat
  let v := if 48 ≤ n ∧ n ≤ 57 then some (n - 48)
    else if 65 ≤ n ∧ n ≤ 70 then some (n - 55)
    else if 97 ≤ n ∧ n ≤ 102 then some (n - 87)
    else none
  v.bind fun k => if k < base then some k else none

/-- The number the digits of a text make, the first being the most significant. -/
def digitsNumber (base : Nat) (cs : List Char) : Option Nat :=
  cs.foldl (fun acc c => acc.bind fun n => (digitValue base c).map fun k => n * base + k) (some 0)

/-- A number: decimal, or hexadecimal with `0x` (R97). -/
def numberOf : List Char → Option Nat
  | [] => none
  | '0' :: 'x' :: [] => none
  | '0' :: 'x' :: cs => digitsNumber 16 cs
  | c :: cs => digitsNumber 10 (c :: cs)

/-- A position: a number, or `NX1`..`NX6` (R97). -/
def positionNumber (cs : List Char) : Option Nat :=
  if cs = "NX1".toList then some 1
  else if cs = "NX2".toList then some 2
  else if cs = "NX3".toList then some 3
  else if cs = "NX4".toList then some 4
  else if cs = "NX5".toList then some 5
  else if cs = "NX6".toList then some 6
  else numberOf cs

/-- A Digit Value: a number, or `BLANK` (R97). -/
def valueNumber (cs : List Char) : Option Nat := if cs = "BLANK".toList then some blankNumber else numberOf cs

/-- A boolean: `0`, `1`, `OFF` or `ON` (R97). -/
def booleanOf (cs : List Char) : Option Bool :=
  if cs = "1".toList ∨ cs = "ON".toList then some true
  else if cs = "0".toList ∨ cs = "OFF".toList then some false
  else none

/-- Whether a text is the mnemonic, in upper case or in lower case (R97). -/
def isMnemonic (upper lower : String) (cs : List Char) : Bool := cs == upper.toList || cs == lower.toList

/-- Six Digit Values. -/
def sixValues (build : Nat → Nat → Nat → Nat → Nat → Nat → Source) : List (List Char) → Option Source
  | [a, b, c, d, e, f] => do
    let v1 ← valueNumber a
    let v2 ← valueNumber b
    let v3 ← valueNumber c
    let v4 ← valueNumber d
    let v5 ← valueNumber e
    let v6 ← valueNumber f
    return build v1 v2 v3 v4 v5 v6
  | _ => none

/-- A source form from its mnemonic and its operands (R97, R98). -/
def sourceOf (mnemonic : List Char) (operands : List (List Char)) : Option Source :=
  if isMnemonic "SETDIGIT" "setdigit" mnemonic then
    match operands with
    | [p, v] => do return .instr (.setdigit (← positionNumber p) (← valueNumber v))
    | _ => none
  else if isMnemonic "SETDOTS" "setdots" mnemonic then
    match operands with
    | [e] => do return .instr (.setdots (← booleanOf e))
    | _ => none
  else if isMnemonic "RENDER" "render" mnemonic then
    match operands with
    | [] => some (.instr .render)
    | _ => none
  else if isMnemonic "BLANKDIGIT" "blankdigit" mnemonic then
    match operands with
    | [p] => do return .blankDigit (← positionNumber p)
    | _ => none
  else if isMnemonic "DOTSON" "dotson" mnemonic then
    match operands with
    | [] => some .dotsOn
    | _ => none
  else if isMnemonic "DOTSOFF" "dotsoff" mnemonic then
    match operands with
    | [] => some .dotsOff
    | _ => none
  else if isMnemonic "SETALL" "setall" mnemonic then sixValues .setAll operands
  else if isMnemonic "SHOW" "show" mnemonic then sixValues .show operands
  else if isMnemonic "BLANKALL" "blankall" mnemonic then
    match operands with
    | [] => some .blankAll
    | _ => none
  else if isMnemonic ".WORD" ".word" mnemonic then
    match operands with
    | [n] => do return .word (← numberOf n)
    | _ => none
  else none

/-- The words one source line assembles to: none for a blank line, an error for a line that is no command (R97). -/
def assembleLine (line : List Char) : Option (List CommandWord) :=
  let text := trimmed (withoutComment line)
  match text with
  | [] => some []
  | c :: cs =>
    let mnemonic := (c :: cs).takeWhile (fun x => !isGap x)
    let rest := trimmed ((c :: cs).dropWhile (fun x => !isGap x))
    let operands := match rest with
      | [] => []
      | r :: rs => (splitAt ',' (r :: rs)).map trimmed
    (sourceOf mnemonic operands).bind assembleSource

/-- The words of a list of source lines, in order. -/
def assembleLines : List (List Char) → Option (List CommandWord)
  | [] => some []
  | line :: lines => (assembleLine line).bind fun ws => (assembleLines lines).map (ws ++ ·)

/-- The words of a program text, one command a line (R97). -/
def assemble (source : String) : Option (List CommandWord) := assembleLines (splitAt '\n' source.toList)

end Sys2Proof.Machine
end

