-- ==== Sys2Proof/Machine/Serial.lean ====
section
/-! DEFINITION. The bit level (spec/42_serial_sequencer.md R171, R172): a render as a straight line of actions on the
lines `LATCH`, `SDO` and `SCK`, each row of R160 that sends a byte being one load and eight times three line actions. -/
namespace Sys2Proof.Machine

/-- One action of the bit level; between two actions every line has a level (R172). Log 14. -/
inductive LineAction where
  /-- `LATCH <- 0 ; Emit(LatchLow)` -/
  | lowerLatch
  /-- `WA <- PACK(..)` -/
  | buildA
  /-- `WB <- PACK(..)` -/
  | buildB
  /-- `SHB <- BYTE(WA, k) ; bc <- 0` -/
  | loadA (k : Nat)
  /-- `SHB <- BYTE(WB, k) ; bc <- 0` -/
  | loadB (k : Nat)
  /-- `SDO <- SHB[7]`, `SCK` being 0 -/
  | present
  /-- `SCK <- 1 ; Emit(Bit(SDO))` -/
  | clockHigh
  /-- `SCK <- 0`, then `SHB <- (SHB << 1)[7:0] ; bc <- bc + 1` -/
  | clockLow
  /-- `LATCH <- 1 ; Emit(LatchHigh) ; respond(OK)` -/
  | raiseLatch
  /-- the phase of R160 moves on -/
  | advance
deriving DecidableEq, Repr

/-- `SHB <- b ; bc <- 0` (R171). -/
def loadByte (b : Byte) (s : State) : State := { s with shb := b, bc := 0 }

/-- `SDO <- SHB[7]` (R171). -/
def presentBit (s : State) : State := { s with sdo := s.shb.getLsbD 7 }

/-- `SCK <- 1 ; Emit(Bit(SDO))` (R171). -/
def raiseClock (s : State) : State := emit (.bit s.sdo) { s with sck := true }

/-- `SCK <- 0 ; SHB <- (SHB << 1)[7:0] ; bc <- bc + 1` (R171). -/
def lowerClock (s : State) : State := { s with sck := false, shb := s.shb <<< 1, bc := s.bc + 1 }

/-- What an action does. -/
def lineAction (a : LineAction) (s : State) : State :=
  match a with
  | .lowerLatch => Sys2Proof.Machine.lowerLatch s
  | .buildA => Sys2Proof.Machine.buildA s
  | .buildB => Sys2Proof.Machine.buildB s
  | .loadA k => loadByte (byteOf s.wa k) s
  | .loadB k => loadByte (byteOf s.wb k) s
  | .present => presentBit s
  | .clockHigh => raiseClock s
  | .clockLow => lowerClock s
  | .raiseLatch => respond .ok (Sys2Proof.Machine.raiseLatch s)
  | .advance => advancePhase s

/-- One round of the loop of R171. -/
def bitRound : List LineAction := [.present, .clockHigh, .clockLow]

/-- `repeat 8 times` (R171). -/
def eightRounds : List LineAction :=
  bitRound ++ bitRound ++ bitRound ++ bitRound ++ bitRound ++ bitRound ++ bitRound ++ bitRound

/-- The actions of one row of R160 at the bit level (R171). -/
def rowLineActions (ph : Nat) : List LineAction :=
  match ph with
  | 1 => [.lowerLatch, .advance]
  | 2 => [.buildA, .advance]
  | 3 => .loadA 3 :: eightRounds ++ [.advance]
  | 4 => .loadA 2 :: eightRounds ++ [.advance]
  | 5 => .loadA 1 :: eightRounds ++ [.advance]
  | 6 => .loadA 0 :: eightRounds ++ [.advance]
  | 7 => [.buildB, .advance]
  | 8 => .loadB 3 :: eightRounds ++ [.advance]
  | 9 => .loadB 2 :: eightRounds ++ [.advance]
  | 10 => .loadB 1 :: eightRounds ++ [.advance]
  | 11 => .loadB 0 :: eightRounds ++ [.advance]
  | 12 => [.raiseLatch, .advance]
  | _ => []

/-- The line actions of a whole render, rows 1 to 12 of R160 in order. -/
def renderLineActions : List LineAction := (List.range' 1 12).flatMap rowLineActions

/-- Carrying out a list of actions. -/
def lineActions (as : List LineAction) (s : State) : State := as.foldl (fun s a => lineAction a s) s

/-- A render at the bit level: `RENDER` is accepted (R162), then every line action is carried out. -/
def bitRender (s : State) : State := lineActions renderLineActions (startRender s)

/-- The state after the first `n` line actions of a render. -/
def bitRenderPrefix (n : Nat) (s : State) : State := lineActions (renderLineActions.take n) (startRender s)

/-- The levels of the lines after each line action of a list, in order: what the receiver sees (R173). -/
def lineLevels : List LineAction → State → List Lines
  | [], _ => []
  | a :: as, s => (lineAction a s).lines :: lineLevels as (lineAction a s)

end Sys2Proof.Machine
end

