-- ==== Sys2Proof/Safety.lean ====
section
/-! DEFINITION. The terms in which claims speak of the machine: legal states, what a render puts on the bus, the invariant
of every run, runs at both levels, and agreement of two states up to some registers. -/
namespace Sys2Proof.Machine

/-- Every position holds a Digit Value, 0..10 (R22). -/
def Digits.Legal (d : Digits) : Prop := ∀ p : Position, (d.get p).toNat ≤ 10

/-- The ten events of a render with the words `wa`, `wb`, in order (R130, R136). -/
def frameEvents (wa wb : DisplayWord) : List OutEvent :=
  [.latchLow, .byte (byteOf wa 3), .byte (byteOf wa 2), .byte (byteOf wa 1), .byte (byteOf wa 0),
    .byte (byteOf wb 3), .byte (byteOf wb 2), .byte (byteOf wb 1), .byte (byteOf wb 0), .latchHigh]

/-- The ten events of a render of a display state (R130, R140 c). -/
def renderEvents (d : Digits) (dots : Bool) : List OutEvent := frameEvents (wordA d dots) (wordB d dots)

/-- Whether an event is the transfer of a byte (R11, R140 f). -/
def OutEvent.isByte : OutEvent → Bool
  | .latchLow => false
  | .latchHigh => false
  | .byte _ => true
  | .bit _ => false

/-- How many of its ten events a render in progress has emitted when the sequencer is in a phase (R160). -/
def eventsBefore (ph : Nat) : Nat :=
  match ph with
  | 2 => 1
  | 3 => 1
  | 4 => 2
  | 5 => 3
  | 6 => 4
  | 7 => 5
  | 8 => 5
  | 9 => 6
  | 10 => 7
  | 11 => 8
  | 12 => 9
  | _ => 0

/-- The events a render in progress has emitted so far. -/
def partialEvents (s : State) : List OutEvent := (frameEvents s.wa s.wb).take (eventsBefore s.ph.toNat)

/-- The registers hold legal values: `D[p]` at most 10 (R22), `ph` at most 12 (R27), and `CAUSE` is 0 exactly when nothing
was rejected since reset (R29). -/
structure State.Legal (s : State) : Prop where
  digits : s.d.Legal
  phase : s.ph.toNat ≤ 12
  cause : s.cause = 0#2 ↔ s.err = false

/-- The history of the bus since reset: `shown` lists the display states of the completed renders, oldest first. `OUT` is
their events and those of the render in progress (R32, R64, R136); `WA` and `WB` hold what the phase says they hold
(R160, R163); the latch line is low inside a render and high after one (R26); the clock is low (R172 a); a level-high
receiver's `Q` follows `SR` while the line is high (R175); the receiver drives the last complete frame and has shifted in
the bytes sent since (R176). -/
structure State.Shows (shown : List (Digits × Bool)) (s : State) : Prop where
  legal : ∀ x ∈ shown, x.1.Legal
  out : s.out = (shown.flatMap fun x => renderEvents x.1 x.2) ++ partialEvents s
  builtA : 3 ≤ s.ph.toNat → s.wa = wordA s.d s.dots
  builtB : 8 ≤ s.ph.toNat → s.wb = wordB s.d s.dots
  latchLow : 2 ≤ s.ph.toNat → s.latch = false
  latchHigh : s.ph.toNat ≤ 1 → shown ≠ [] → s.latch = true
  latchReset : s.ph.toNat ≤ 1 → shown = [] → s.latch = Config.latchReset
  clock : s.sck = false
  follows : Config.latchSense = .levelHigh → s.latch = true → s.rx.q = s.rx.sr
  driven : ∀ x, shown.getLast? = some x → s.rx.q = frameOf (wordA x.1 x.2) (wordB x.1 x.2)
  shifted : ∃ r : Receiver, s.rx.sr = (Receiver.listen .risingEdge false (partialEvents s) r).sr ∧
    ∀ x, shown.getLast? = some x → r.sr = frameOf (wordA x.1 x.2) (wordB x.1 x.2)

/-- The invariant of every run, at the command level and at the micro-step level. -/
def State.Inv (s : State) : Prop := s.Legal ∧ ∃ shown, s.Shows shown

/-- The state lets the host's next word be accepted: not in reset, and `CMD_READY` (R161). -/
def State.Ready (s : State) : Prop := s.rst = false ∧ s.ph = 0

/-- `n` steps of a machine, stopping at the first fault or refusal. -/
def runWith (f : State → Answer) : Nat → State → Answer
  | 0, s => .next s
  | n + 1, s =>
    match f s with
    | .next t => runWith f n t
    | .fault r => .fault r
    | .refused r => .refused r

/-- `n` steps at the command level. -/
def run (n : Nat) (s : State) : Answer := runWith step n s

/-- `n` steps at the micro-step level. -/
def microRun (n : Nat) (s : State) : Answer := runWith microStep n s

/-- The responses the host receives in `n` command-level steps, in order (R96, R196). -/
def responses : Nat → State → List Response
  | 0, _ => []
  | n + 1, s =>
    match step s with
    | .next t => t.resp.toList ++ responses n t
    | .fault _ => []
    | .refused _ => []

/-- The words the block accepts: a `SETDIGIT` with position 1..6 and value 0..10, a `SETDOTS`, a `RENDER` (R93). -/
def acceptedWord (w : CommandWord) : Bool :=
  match decode w with
  | .command (.setdigit p v) => decide (1 ≤ p ∧ p ≤ 6 ∧ v ≤ 10)
  | .command (.setdots _) => true
  | .command .render => true
  | .illegal _ => false

/-- The words that are a `RENDER` (R91). -/
def rendersWord (w : CommandWord) : Bool := decide (decode w = .command .render)

/-- The host's safety predicate "nothing went wrong" (R196). -/
def State.NoRejection (s : State) : Prop := s.err = false

/-- Two states that agree but for what a rejection writes: `ERR`, `CAUSE` and the response (R194, R197). -/
def SameButRejection (s t : State) : Prop := t = { s with err := t.err, cause := t.cause, resp := t.resp }

/-- Two states that agree but for the serialiser's byte `SHB` (R170). -/
def SameButShiftByte (s t : State) : Prop := t = { s with shb := t.shb }

/-- Two states that look the same to the outside world (R11). -/
def SameOutside (s t : State) : Prop := s.out = t.out

/-- Every dot output is on exactly when the dots are (R176). -/
def dotsShown (q : Frame) (dots : Bool) : Prop := dotOutputs q = [dots, dots, dots, dots]

/-- What the display shows: cathode `k` of NX`p` is on exactly when `D[p]` = `k`, every dot exactly when `DOTS` (R176). -/
def Shown (q : Frame) (d : Digits) (dots : Bool) : Prop :=
  (∀ (p : Position) (k : Fin 10), cathodeOn q p k = true ↔ (d.get p).toNat = k.val) ∧ dotsShown q dots

end Sys2Proof.Machine
end

