-- ==== Sys2Proof/Certificates/Slice0/Obligations.lean ====
section
/-! DEFINITION. The statements about the machine, for the provers. Each docstring names the rules of spec/ it formalises. -/

open Sys2Proof Sys2Proof.Machine

/-! ### Encoding -/

/-- R91, R92: decoding the word of a command that fits a word gives the command back, for every value of every operand. -/
def Obligations.DecodeEncodeAgree : Prop :=
  ∀ i : Instr, i.WellFormed → decode (encode i) = .command i

/-- R91, R93: a word that is a command is that command's one word. -/
def Obligations.CommandWordsAreUnique : Prop :=
  ∀ (w : CommandWord) (i : Instr), decode w = .command i → i.WellFormed ∧ encode i = w

/-- R91, R92: a word is the command of a row exactly when it matches the row under its mask, the rows are disjoint, and
the operands are the fields, zero extended, whatever they hold. -/
def Obligations.WordsMatchTheirRows : Prop :=
  ∀ w : CommandWord,
    (w &&& 0xF000#16 = 0x1000#16 ↔ decode w = .command (.setdigit (w.toNat / 256 % 16) (w.toNat % 256))) ∧
    (w &&& 0xFFFE#16 = 0x2000#16 ↔ decode w = .command (.setdots (decide (w.toNat % 2 = 1)))) ∧
    (w &&& 0xFFFF#16 = 0x3000#16 ↔ decode w = .command .render) ∧
    (∀ p v, decode w = .command (.setdigit p v) → w &&& 0xF000#16 = 0x1000#16) ∧
    (∀ e, decode w = .command (.setdots e) → w &&& 0xFFFE#16 = 0x2000#16) ∧
    ¬ (w &&& 0xF000#16 = 0x1000#16 ∧ w &&& 0xFFFE#16 = 0x2000#16) ∧
    ¬ (w &&& 0xF000#16 = 0x1000#16 ∧ w &&& 0xFFFF#16 = 0x3000#16) ∧
    ¬ (w &&& 0xFFFE#16 = 0x2000#16 ∧ w &&& 0xFFFF#16 = 0x3000#16)

/-- R93: of the 65 536 words 4096 are a `SETDIGIT`, two are a `SETDOTS`, one is `RENDER` and 61 437 are illegal; 66 of the
`SETDIGIT` words are accepted and 4030 rejected, 69 words in all being accepted. -/
def Obligations.WordCounts : Prop :=
  ((List.range 65536).countP fun n => decide (BitVec.ofNat 16 n &&& 0xF000#16 = 0x1000#16)) = 4096 ∧
  ((List.range 65536).countP fun n => (decode (BitVec.ofNat 16 n)).instr?.isNone) = 61437 ∧
  ((List.range 65536).countP fun n => acceptedWord (BitVec.ofNat 16 n)) = 69 ∧
  ((List.range 65536).countP fun n =>
    acceptedWord (BitVec.ofNat 16 n) && decide (BitVec.ofNat 16 n &&& 0xF000#16 = 0x1000#16)) = 66 ∧
  ((List.range 65536).countP fun n =>
    !acceptedWord (BitVec.ofNat 16 n) && decide (BitVec.ofNat 16 n &&& 0xF000#16 = 0x1000#16)) = 4030 ∧
  (∀ w : CommandWord, decode w = .command (.setdots false) ↔ w = 0x2000#16) ∧
  (∀ w : CommandWord, decode w = .command (.setdots true) ↔ w = 0x2001#16) ∧
  (∀ w : CommandWord, decode w = .command .render ↔ w = 0x3000#16)

/-- R91, R93, R94: words written out from the encoding decode to the commands they stand for. A sanity statement. -/
def Obligations.SampleWordsDecode : Prop :=
  decode 0b0001000100000001#16 = .command (.setdigit 1 1) ∧
  decode 0b0001011000001010#16 = .command (.setdigit 6 10) ∧
  decode 0b0001100111001000#16 = .command (.setdigit 9 200) ∧
  decode 0b0010000000000001#16 = .command (.setdots true) ∧
  decode 0b0011000000000000#16 = .command .render ∧
  decode 0b0010000000000010#16 = .illegal .setdotsReserved ∧
  decode 0b0011000000000001#16 = .illegal .renderReserved ∧
  decode 0b0100000000000000#16 = .illegal .unknownOp

/-- R94: what each ill-formed word does when the block takes it. `op`, `pos` and `val` are the fields of the word; the state
after is the state before without the word, with `ERR`, `CAUSE` and the response of R194. -/
def Obligations.IllFormedWordsAreRejected : Prop :=
  ∀ (s : State) (w : CommandWord) (rest : List CommandWord), s.Ready → s.pending = w :: rest →
    let op := w.toNat / 4096
    let pos := w.toNat / 256 % 16
    let val := w.toNat % 256
    let rejected (c : Cause) : State :=
      { s with pending := rest, err := true, cause := c.code, resp := some (.invalidArg c) }
    (op = 0 ∨ 4 ≤ op → step s = .next (rejected .badCommand)) ∧
    (op = 2 ∧ (pos ≠ 0 ∨ 2 ≤ val) → step s = .next (rejected .badCommand)) ∧
    (op = 3 ∧ (pos ≠ 0 ∨ val ≠ 0) → step s = .next (rejected .badCommand)) ∧
    (op = 1 ∧ (pos = 0 ∨ 7 ≤ pos) → step s = .next (rejected .badPosition)) ∧
    (op = 1 ∧ 1 ≤ pos ∧ pos ≤ 6 ∧ 11 ≤ val → step s = .next (rejected .badValue))

/-! ### The assembler -/

/-- R98: the expansion of each pseudo-instruction, with 10 for BLANK (R80). -/
def Obligations.PseudoInstructionsExpand : Prop :=
  ∀ p v1 v2 v3 v4 v5 v6 : Nat,
    expand (.blankDigit p) = [.setdigit p 10] ∧
    expand .dotsOn = [.setdots true] ∧
    expand .dotsOff = [.setdots false] ∧
    expand (.setAll v1 v2 v3 v4 v5 v6) =
      [.setdigit 1 v1, .setdigit 2 v2, .setdigit 3 v3, .setdigit 4 v4, .setdigit 5 v5, .setdigit 6 v6] ∧
    expand (.show v1 v2 v3 v4 v5 v6) = expand (.setAll v1 v2 v3 v4 v5 v6) ++ [.render] ∧
    expand .blankAll = expand (.setAll 10 10 10 10 10 10)

/-- R97, R98: what a source form assembles to is the words of its expansion, each decoding to its command, and it
assembles exactly when every number fits its field; a raw word (log 16) stands for itself. -/
def Obligations.AssembledWordsDecodeToTheirExpansion : Prop :=
  (∀ (src : Source) (ws : List CommandWord), (∀ n, src ≠ .word n) → assembleSource src = some ws →
    ws.map decode = (expand src).map .command) ∧
  (∀ src : Source, (∀ n, src ≠ .word n) →
    ((assembleSource src).isSome = true ↔ ∀ i ∈ expand src, i.WellFormed)) ∧
  (∀ n : Nat, n < 65536 → assembleSource (.word n) = some [BitVec.ofNat 16 n])

/-- R98, R176: running the words of `SHOW` with six legal values puts exactly those digits on the display, with the dots as
they were. -/
def Obligations.ShowDisplaysItsDigits : Prop :=
  ∀ (s : State) (v1 v2 v3 v4 v5 v6 : Nat) (ws : List CommandWord), s.Ready →
    v1 ≤ 10 → v2 ≤ 10 → v3 ≤ 10 → v4 ≤ 10 → v5 ≤ 10 → v6 ≤ 10 →
    assembleSource (.show v1 v2 v3 v4 v5 v6) = some ws → s.pending = ws →
    ∃ t, run 7 s = .next t ∧ t.pending = [] ∧ t.dots = s.dots ∧ t.err = s.err ∧
      (t.d.nx1.toNat = v1 ∧ t.d.nx2.toNat = v2 ∧ t.d.nx3.toNat = v3 ∧
        t.d.nx4.toNat = v4 ∧ t.d.nx5.toNat = v5 ∧ t.d.nx6.toNat = v6) ∧
      Shown t.rx.q t.d t.dots

/-! ### The step -/

/-- R162, R63: when the host's next word decodes to a command and the block is ready, a step is that command, carried out on
the state without the word and without the last response. -/
def Obligations.StepRunsTheDecodedCommand : Prop :=
  ∀ (s : State) (w : CommandWord) (rest : List CommandWord) (i : Instr),
    s.Ready → s.pending = w :: rest → decode w = .command i →
    step s = exec i { s with pending := rest, resp := none }

/-- R34, R220: with no command presented and no reset, nothing changes at either level; only the pulse of the last response
ends (the model's choice, log 8 and log 10). -/
def Obligations.IdleBlockWaits : Prop :=
  ∀ s : State, s.Ready → s.pending = [] →
    step s = .next { s with resp := none } ∧ microStep s = .next { s with resp := none }

/-- R27, R164: no step stops, at either level, in a state whose phase is one of the legal values 0 to 12; in a phase the
sequencer has no row for, a step out of reset stops with the model's own fault (log 11). -/
def Obligations.StepsStopOnlyInIllegalPhases : Prop :=
  ∀ s : State,
    (s.ph.toNat ≤ 12 → (∃ t, step s = .next t) ∧ ∃ t, microStep s = .next t) ∧
    (13 ≤ s.ph.toNat → s.rst = false → step s = .fault .illegalPhase ∧ microStep s = .fault .illegalPhase)

/-! ### SETDIGIT -/

/-- R110: `SETDIGIT` with a legal position and a legal value always completes, stores the value at that position and
changes nothing else. -/
def Obligations.SetdigitStoresTheDigitValue : Prop :=
  ∀ (s : State) (q : Position) (v : Nat), v ≤ 10 →
    ∃ t, exec (.setdigit q.number v) s = .next t ∧ (t.d.get q).toNat = v ∧
      (∀ q', q' ≠ q → t.d.get q' = s.d.get q') ∧ t.resp = some .ok ∧
      t = { s with d := t.d, resp := t.resp }

/-- R110, R192, R193, R194: a position outside 1..6 is rejected with BAD_POSITION, cause 2, whatever the value is, and
nothing else changes. -/
def Obligations.SetdigitRejectsABadPosition : Prop :=
  ∀ (s : State) (p v : Nat), p < 1 ∨ 6 < p →
    exec (.setdigit p v) s =
      .next { s with err := true, cause := 2#2, resp := some (.invalidArg .badPosition) }

/-- R110, R191, R194: a value above 10 at a legal position is rejected with BAD_VALUE, cause 1, and nothing else changes. -/
def Obligations.SetdigitRejectsABadValue : Prop :=
  ∀ (s : State) (q : Position) (v : Nat), 10 < v →
    exec (.setdigit q.number v) s =
      .next { s with err := true, cause := 1#2, resp := some (.invalidArg .badValue) }

/-- R111: the laws of `SETDIGIT`, (a) to (f). -/
def Obligations.SetdigitLaws : Prop :=
  ∀ (s : State) (p q : Position) (v w : Nat), v ≤ 10 → w ≤ 10 →
    ∃ t, exec (.setdigit p.number v) s = .next t ∧
      (t.d.get p).toNat = v ∧
      (∀ r, r ≠ p → t.d.get r = s.d.get r) ∧
      exec (.setdigit p.number w) t = exec (.setdigit p.number w) s ∧
      (p ≠ q → ∀ u, exec (.setdigit q.number w) s = .next u →
        exec (.setdigit q.number w) t = exec (.setdigit p.number v) u) ∧
      (∀ (e : Bool) (u : State), exec (.setdots e) s = .next u →
        exec (.setdots e) t = exec (.setdigit p.number v) u) ∧
      ∀ (a b : Nat) (u : State), s.d.Legal → exec (.setdigit a b) s = .next u → u.d.Legal

/-! ### SETDOTS -/

/-- R112: `SETDOTS` always completes, stores the Dot State and changes nothing else. -/
def Obligations.SetdotsStoresTheDotState : Prop :=
  ∀ (s : State) (e : Bool),
    ∃ t, exec (.setdots e) s = .next t ∧ t.dots = e ∧ t.resp = some .ok ∧
      t = { s with dots := t.dots, resp := t.resp }

/-- R113: the laws of `SETDOTS`, (a) to (d). -/
def Obligations.SetdotsLaws : Prop :=
  ∀ (s : State) (e f : Bool),
    ∃ t, exec (.setdots e) s = .next t ∧ t.dots = e ∧ (∀ p, t.d.get p = s.d.get p) ∧
      exec (.setdots f) t = exec (.setdots f) s ∧ t.resp = some .ok ∧ t.err = s.err ∧ t.cause = s.cause

/-! ### RENDER -/

/-- R130, R133, R134, R135, R136: `RENDER` always completes; it builds word A and word B, sends their bytes, most
significant first, word A first, between one `LatchLow` and one `LatchHigh`, leaves the latch line high, and changes
nothing else of the block. That the serialiser's registers `SHB`, `bc`, `SDO` and `SCK` are among what it leaves unchanged
is the model's inference about the command level (log 13, DEDUCED); below that level they move (R170, R171, R172 d). -/
def Obligations.RenderSendsTheFrame : Prop :=
  ∀ s : State, ∃ t, exec .render s = .next t ∧
    t.wa = pack (sym s.d.nx6) (sym s.d.nx5) (sym s.d.nx4) s.dots ∧
    t.wb = pack (sym s.d.nx3) (sym s.d.nx2) (sym s.d.nx1) s.dots ∧
    t.latch = true ∧
    t.out = s.out ++
      [.latchLow,
        .byte (t.wa.extractLsb' 24 8), .byte (t.wa.extractLsb' 16 8), .byte (t.wa.extractLsb' 8 8),
        .byte (t.wa.extractLsb' 0 8),
        .byte (t.wb.extractLsb' 24 8), .byte (t.wb.extractLsb' 16 8), .byte (t.wb.extractLsb' 8 8),
        .byte (t.wb.extractLsb' 0 8),
        .latchHigh] ∧
    t.resp = some .ok ∧
    t = { s with wa := t.wa, wb := t.wb, latch := t.latch, out := t.out, rx := t.rx, resp := t.resp }

/-- R139: after a render of any display state, the dot bits and the three fields of each word. -/
def Obligations.RenderedWordsCarryTheSymbols : Prop :=
  ∀ s t : State, exec .render s = .next t →
    (t.wa.getLsbD 31 = s.dots ∧ t.wa.getLsbD 30 = s.dots ∧ t.wb.getLsbD 31 = s.dots ∧ t.wb.getLsbD 30 = s.dots) ∧
    (t.wa.extractLsb' 0 10 = sym s.d.nx6 ∧ t.wa.extractLsb' 10 10 = sym s.d.nx5 ∧
      t.wa.extractLsb' 20 10 = sym s.d.nx4) ∧
    (t.wb.extractLsb' 0 10 = sym s.d.nx3 ∧ t.wb.extractLsb' 10 10 = sym s.d.nx2 ∧
      t.wb.extractLsb' 20 10 = sym s.d.nx1)

/-- R81: the Symbol Code table. -/
def Obligations.SymbolCodeTable : Prop :=
  (∀ v : DigitCode, v.toNat ≤ 9 → ∀ k : Fin 10, (sym v).getLsbD k.val = decide (k.val = v.toNat)) ∧ sym 10#4 = 0#10

/-- R82: for a digit exactly one bit is set and for BLANK none; `SYM` is injective on the Digit Values, so BLANK is not digit
0; and every code is below 2^10. -/
def Obligations.SymbolCodesAreOneHotAndInjective : Prop :=
  (∀ v : DigitCode, v.toNat ≤ 9 → ∃ k : Fin 10, (sym v).getLsbD k.val = true ∧
    ∀ j : Fin 10, (sym v).getLsbD j.val = true → j = k) ∧
  (∀ k : Fin 10, (sym 10#4).getLsbD k.val = false) ∧
  (∀ v w : DigitCode, v.toNat ≤ 10 → w.toNat ≤ 10 → sym v = sym w → v = w) ∧
  sym 0#4 ≠ sym 10#4 ∧
  ∀ v : DigitCode, (sym v).toNat < 2 ^ 10

/-- R132: `PACK` is the concatenation `dot :: dot :: c2 :: c1 :: c0`. -/
def Obligations.PackIsAConcatenation : Prop :=
  ∀ (c0 c1 c2 : SymbolCode) (dot : Bool),
    pack c0 c1 c2 dot =
      (BitVec.ofBool dot ++ (BitVec.ofBool dot ++ (c2 ++ (c1 ++ c0))) : BitVec (1 + (1 + (10 + (10 + 10)))))

/-- R137: the OR of the packer is a sum, so no bit is set twice and none is lost; the packer is injective; the four bytes
determine the word; and the words of legal digits lie between 0 and 0xE0080200, both reached. -/
def Obligations.PackingLaws : Prop :=
  (∀ (c0 c1 c2 : SymbolCode) (dot : Bool), (pack c0 c1 c2 dot).toNat =
    c0.toNat + c1.toNat * 2 ^ 10 + c2.toNat * 2 ^ 20 + dot.toNat * 2 ^ 30 + dot.toNat * 2 ^ 31) ∧
  (∀ (c0 c1 c2 e0 e1 e2 : SymbolCode) (dot dot' : Bool), pack c0 c1 c2 dot = pack e0 e1 e2 dot' →
    c0 = e0 ∧ c1 = e1 ∧ c2 = e2 ∧ dot = dot') ∧
  (∀ w : DisplayWord, w = byteOf w 3 ++ (byteOf w 2 ++ (byteOf w 1 ++ byteOf w 0))) ∧
  (∀ (d : Digits) (dots : Bool), d.Legal →
    (wordA d dots).toNat ≤ 0xE0080200 ∧ (wordB d dots).toNat ≤ 0xE0080200) ∧
  pack (sym 9#4) (sym 9#4) (sym 9#4) true = 0xE0080200#32 ∧
  pack (sym 10#4) (sym 10#4) (sym 10#4) false = 0#32

/-- R56, R62, R83: where each thing lies in the frame `F` = `WA :: WB` of a render, and when it is sent: code bit `k` of NX`p`
at frame bit `fieldOffset p + k`, the Dot State at the frame bits 63, 62, 31 and 30; and a render at the bit level puts
`F[63 - t]` on the bus as the bit of bit time `t`, for `t` from 0 to 63. -/
def Obligations.FrameMap : Prop :=
  ∀ s : State,
    let f := frameOf (wordA s.d s.dots) (wordB s.d s.dots)
    (∃ t, exec .render s = .next t ∧ f = t.wa ++ t.wb) ∧
    (fieldOffset .nx4 = 52 ∧ fieldOffset .nx5 = 42 ∧ fieldOffset .nx6 = 32 ∧
      fieldOffset .nx1 = 20 ∧ fieldOffset .nx2 = 10 ∧ fieldOffset .nx3 = 0) ∧
    (∀ (p : Position) (k : Fin 10), f.getLsbD (fieldOffset p + k.val) = (sym (s.d.get p)).getLsbD k.val) ∧
    dotsShown f s.dots ∧
    (bitRender s).out =
      s.out ++ (.latchLow :: ((List.range 64).map fun t => .bit (f.getLsbD (63 - t))) ++ [.latchHigh])

/-- R138: changing one Digit Value changes no frame bit outside that position's field, and changing the Dot State changes
only the four dot bits. -/
def Obligations.EachPositionHasItsOwnLane : Prop :=
  ∀ (d : Digits) (dots dots' : Bool) (p : Position) (v : DigitCode) (k : Nat),
    (k < fieldOffset p ∨ fieldOffset p + 10 ≤ k →
      (frameOf (wordA (d.set p v) dots) (wordB (d.set p v) dots)).getLsbD k =
        (frameOf (wordA d dots) (wordB d dots)).getLsbD k) ∧
    (k ≠ 63 ∧ k ≠ 62 ∧ k ≠ 31 ∧ k ≠ 30 →
      (frameOf (wordA d dots') (wordB d dots')).getLsbD k = (frameOf (wordA d dots) (wordB d dots)).getLsbD k)

/-- R140 (b), (c), (d): a render appends ten events that are a function of the display state alone, and two legal display
states that render the same events are the same. -/
def Obligations.RenderedEventsDetermineTheDisplay : Prop :=
  (∀ s t : State, exec .render s = .next t →
    t.out = s.out ++ renderEvents s.d s.dots ∧ (renderEvents s.d s.dots).length = 10) ∧
  ∀ (d d' : Digits) (dots dots' : Bool), d.Legal → d'.Legal → renderEvents d dots = renderEvents d' dots' →
    d = d' ∧ dots = dots'

/-- R140 (f), R32: over any program run at the command level, each `RENDER` adds one `LatchLow`, one `LatchHigh` and eight
`Byte` events to `OUT`, ten events in all, and nothing else adds any. -/
def Obligations.LatchPulsesCountRenders : Prop :=
  ∀ s : State, s.Ready →
    ∃ t, run s.pending.length s = .next t ∧ t.pending = [] ∧
      t.out.count .latchLow = s.out.count .latchLow + s.pending.countP rendersWord ∧
      t.out.count .latchHigh = s.out.count .latchHigh + s.pending.countP rendersWord ∧
      t.out.countP OutEvent.isByte = s.out.countP OutEvent.isByte + 8 * s.pending.countP rendersWord ∧
      t.out.length = s.out.length + 10 * s.pending.countP rendersWord

/-- R225, R61: a program without a `RENDER`, whatever else it holds, leaves the bus, the lines and the display as they were. -/
def Obligations.UpdatesAloneLeaveTheDisplay : Prop :=
  ∀ s : State, s.Ready → (∀ w ∈ s.pending, rendersWord w = false) →
    ∃ t, run s.pending.length s = .next t ∧ t.pending = [] ∧ t.out = s.out ∧ t.lines = s.lines ∧ t.rx = s.rx ∧
      t.wa = s.wa ∧ t.wb = s.wb

/-! ### Rejections, responses and status -/

/-- R29: in a step out of reset, at either level, `ERR` and `CAUSE` are unchanged, or the step rejected a command, set `ERR`
and wrote the code of the cause, which is not 0; so no command clears either, and only reset does. That a step which rejects
nothing leaves no rejection standing as the response is the model's choice (log 8). -/
def Obligations.OnlyRejectionsWriteErrAndCause : Prop :=
  ∀ s t : State, step s = .next t ∨ microStep s = .next t →
    (s.rst = false →
      (t.err = s.err ∧ t.cause = s.cause ∧ ∀ c, t.resp ≠ some (.invalidArg c)) ∨
      ∃ c : Cause, t.resp = some (.invalidArg c) ∧ t.err = true ∧ t.cause = c.code ∧ t.cause ≠ 0) ∧
    (s.rst = true → t.err = false ∧ t.cause = 0)

/-- R96: the response codes; and every command the block takes at the command level gets one response, `OK`, or the
invalid-argument response whose code is the cause code just written to `CAUSE`; `RENDER` is answered when `LATCH` is 1 and
`ph` is 0. -/
def Obligations.EveryCommandIsAnswered : Prop :=
  (Response.ok.code = 0#2 ∧ (Response.invalidArg .badValue).code = 1#2 ∧
    (Response.invalidArg .badPosition).code = 2#2 ∧ (Response.invalidArg .badCommand).code = 3#2) ∧
  ∀ (s : State) (w : CommandWord) (rest : List CommandWord), s.Ready → s.pending = w :: rest →
    ∃ t r, step s = .next t ∧ t.resp = some r ∧ t.pending = rest ∧
      (acceptedWord w = true → r = .ok) ∧
      (acceptedWord w = false → ∃ c, r = .invalidArg c ∧ r.code = t.cause) ∧
      (decode w = .command .render → t.latch = true ∧ t.ph = 0)

/-- R196: over any run without a reset that starts with `ERR` 0, `ERR` is 0 at the end exactly when every response was
`OK`. That a response is counted once, its pulse being one step long, is log 8. -/
def Obligations.NoErrorExactlyWhenAllResponsesOk : Prop :=
  ∀ (n : Nat) (s t : State), s.rst = false → s.NoRejection → run n s = .next t →
    (t.NoRejection ↔ ∀ r ∈ responses n s, r = .ok)

/-- R197: two states that differ in `ERR`, `CAUSE` and the last response only take the same step, at either level, up to
those. -/
def Obligations.RejectionRecordIsNeverRead : Prop :=
  ∀ s t s' : State, SameButRejection s t →
    (step s = .next s' → ∃ t', step t = .next t' ∧ SameButRejection s' t') ∧
    (microStep s = .next s' → ∃ t', microStep t = .next t' ∧ SameButRejection s' t')

/-- R194, R197, R228: a program and the same program without the words the block rejects end in the same state, `ERR`,
`CAUSE` and the last response aside; so the bus and the display are the same too. -/
def Obligations.RejectedWordsLeaveNoOtherTrace : Prop :=
  ∀ s : State, s.Ready →
    ∃ t u, run s.pending.length s = .next t ∧
      run (s.pending.filter acceptedWord).length { s with pending := s.pending.filter acceptedWord } = .next u ∧
      SameButRejection u t ∧ SameOutside u t

/-- R30, R28: the fields of `STATUS`, and its value at reset, `0b00L00000` with `L` = `LATCH_RESET`. -/
def Obligations.StatusFields : Prop :=
  (∀ s : State, s.status.getLsbD 0 = decide (s.ph ≠ 0) ∧ s.status.getLsbD 1 = s.err ∧
    s.status.extractLsb' 2 2 = s.cause ∧ s.status.getLsbD 4 = s.dots ∧ s.status.getLsbD 5 = s.latch ∧
    s.status.extractLsb' 6 2 = 0#2) ∧
  State.reset.status = 0#2 ++ (BitVec.ofBool Config.latchReset ++ 0#5)

/-! ### The sequencer -/

/-- R160, R164: every row of the table, with the phase it leads to; the registers a row does not name are unchanged, and a
response is given in the last row only (that the step ends the last response's pulse is log 8). -/
def Obligations.SequencerRows : Prop :=
  ∀ s : State, s.rst = false →
    (s.ph = 1 → ∃ x, microStep s =
      .next { s with ph := 2, latch := false, out := s.out ++ [.latchLow], rx := x, resp := none }) ∧
    (s.ph = 2 → microStep s =
      .next { s with ph := 3, wa := pack (sym s.d.nx6) (sym s.d.nx5) (sym s.d.nx4) s.dots, resp := none }) ∧
    (s.ph = 3 → ∃ x, microStep s = .next { s with
      ph := 4, shb := s.wa.extractLsb' 24 8, out := s.out ++ [.byte (s.wa.extractLsb' 24 8)], rx := x, resp := none }) ∧
    (s.ph = 4 → ∃ x, microStep s = .next { s with
      ph := 5, shb := s.wa.extractLsb' 16 8, out := s.out ++ [.byte (s.wa.extractLsb' 16 8)], rx := x, resp := none }) ∧
    (s.ph = 5 → ∃ x, microStep s = .next { s with
      ph := 6, shb := s.wa.extractLsb' 8 8, out := s.out ++ [.byte (s.wa.extractLsb' 8 8)], rx := x, resp := none }) ∧
    (s.ph = 6 → ∃ x, microStep s = .next { s with
      ph := 7, shb := s.wa.extractLsb' 0 8, out := s.out ++ [.byte (s.wa.extractLsb' 0 8)], rx := x, resp := none }) ∧
    (s.ph = 7 → microStep s =
      .next { s with ph := 8, wb := pack (sym s.d.nx3) (sym s.d.nx2) (sym s.d.nx1) s.dots, resp := none }) ∧
    (s.ph = 8 → ∃ x, microStep s = .next { s with
      ph := 9, shb := s.wb.extractLsb' 24 8, out := s.out ++ [.byte (s.wb.extractLsb' 24 8)], rx := x, resp := none }) ∧
    (s.ph = 9 → ∃ x, microStep s = .next { s with
      ph := 10, shb := s.wb.extractLsb' 16 8, out := s.out ++ [.byte (s.wb.extractLsb' 16 8)], rx := x,
      resp := none }) ∧
    (s.ph = 10 → ∃ x, microStep s = .next { s with
      ph := 11, shb := s.wb.extractLsb' 8 8, out := s.out ++ [.byte (s.wb.extractLsb' 8 8)], rx := x, resp := none }) ∧
    (s.ph = 11 → ∃ x, microStep s = .next { s with
      ph := 12, shb := s.wb.extractLsb' 0 8, out := s.out ++ [.byte (s.wb.extractLsb' 0 8)], rx := x, resp := none }) ∧
    (s.ph = 12 → ∃ x, microStep s = .next { s with
      ph := 0, latch := true, out := s.out ++ [.latchHigh], rx := x, resp := some .ok })

/-- R162: what becomes of the host's word at the micro-step level: `SETDIGIT` and `SETDOTS` are carried out in the one step,
an illegal word is rejected in it, and `RENDER` only sets `ph` to 1. That the accept step of `RENDER` ends the last response's
pulse is the model's choice (log 8). -/
def Obligations.AcceptingACommand : Prop :=
  ∀ (s : State) (w : CommandWord) (rest : List CommandWord), s.Ready → s.pending = w :: rest →
    (∀ p v, decode w = .command (.setdigit p v) → microStep s = step s) ∧
    (∀ e, decode w = .command (.setdots e) → microStep s = step s) ∧
    (∀ why, decode w = .illegal why →
      microStep s = .next { s with pending := rest, err := true, cause := 3#2, resp := some (.invalidArg .badCommand) }) ∧
    (decode w = .command .render → microStep s = .next { s with pending := rest, ph := 1, resp := none }) ∧
    (decode w ≠ .command .render → ∃ t, microStep s = .next t ∧ t.ph = 0 ∧ t.pending = rest)

/-- R163, R227: while the block is busy it takes no command: `CMD_READY` is 0, the step is the sequencer's, the host's words
stay as they are, and the display registers, `ERR` and `CAUSE` do not change. After the step a response stands exactly when
the phase was 12, which gives it (R160, R162); that none stands after the steps of the phases 1 to 11 is the model's choice
(log 8). -/
def Obligations.BusyBlockHoldsCommands : Prop :=
  ∀ s : State, s.rst = false → 1 ≤ s.ph.toNat → s.ph.toNat ≤ 12 →
    s.cmdReady = false ∧
    ∃ t, microStep s = .next t ∧ step s = .next t ∧ t.pending = s.pending ∧ t.d = s.d ∧ t.dots = s.dots ∧
      t.err = s.err ∧ t.cause = s.cause ∧ (t.resp ≠ none ↔ s.ph = 12)

/-- R164: the sequencer's step reads no input port, and only the steps in the phases 2 and 7 read the display registers. -/
def Obligations.SequencerReadsNoInput : Prop :=
  ∀ s t : State, s.rst = false → s.ph ≠ 0 → microStep s = .next t →
    (∀ ws, microStep { s with pending := ws } = .next { t with pending := ws }) ∧
    (s.ph ≠ 2 → s.ph ≠ 7 → ∀ (d : Digits) (e : Bool),
      microStep { s with d := d, dots := e } = .next { t with d := d, dots := e })

/-- R165: from phase 1 the sequencer reaches phase 0 in exactly twelve steps, whatever the state. -/
def Obligations.RenderTakesTwelveSteps : Prop :=
  ∀ s : State, s.rst = false → s.ph = 1 →
    (∀ n, n < 12 → ∃ t, microRun n s = .next t ∧ t.ph.toNat = n + 1) ∧ ∃ t, microRun 12 s = .next t ∧ t.ph = 0

/-- R170: accepting `RENDER` and then twelve sequencer steps give exactly the state and the events of the command-level
`RENDER`, with `ph` 0 and `SHB` the last byte of word B in addition. -/
def Obligations.MicroRenderRefinesRender : Prop :=
  ∀ (s : State) (rest : List CommandWord), s.Ready → s.pending = 0x3000#16 :: rest →
    ∃ t, exec .render { s with pending := rest, resp := none } = .next t ∧ step s = .next t ∧ t.ph = 0 ∧
      microRun 13 s = .next { t with shb := t.wb.extractLsb' 0 8 }

/-- R7, R166, R170: any program run at the micro-step level ends, after one step a word and twelve more a render, in the
state in which the command level ends, `SHB` aside. -/
def Obligations.MicroRunsRefineCommandRuns : Prop :=
  ∀ s : State, s.Ready →
    ∃ t u, run s.pending.length s = .next t ∧
      microRun (s.pending.length + 12 * s.pending.countP rendersWord) s = .next u ∧
      t.pending = [] ∧ t.Ready ∧ u.Ready ∧ SameButShiftByte t u

/-! ### The bit level -/

/-- R171: loading a byte and eight rounds of the loop send its bits, most significant first, and leave `SHB` 0, `bc` 8, `SCK`
0 and `SDO` at the byte's last bit. -/
def Obligations.SerialiserSendsEightBits : Prop :=
  ∀ (s : State) (k : Nat),
    (∃ x, lineActions (.loadA k :: eightRounds) s = { s with
      shb := 0, bc := 8, sck := false, sdo := (byteOf s.wa k).getLsbD 0,
      out := s.out ++ ((List.range 8).map fun i => .bit ((byteOf s.wa k).getLsbD (7 - i))), rx := x }) ∧
    (∃ x, lineActions (.loadB k :: eightRounds) s = { s with
      shb := 0, bc := 8, sck := false, sdo := (byteOf s.wb k).getLsbD 0,
      out := s.out ++ ((List.range 8).map fun i => .bit ((byteOf s.wb k).getLsbD (7 - i))), rx := x })

/-- R171, R173: a render at the bit level sends the 64 bits of the frame, `F[63]` first, between one `LatchLow` and one
`LatchHigh`, brings the receiver where the command-level render brings it, and otherwise differs from that render in
the serialiser's registers only. -/
def Obligations.BitRenderRefinesRender : Prop :=
  ∀ s : State, s.ph = 0 →
    ∃ t, exec .render s = .next t ∧
      let f := frameOf t.wa t.wb
      bitRender s = { t with
        shb := 0, bc := 8, sdo := f.getLsbD 0, sck := false,
        out := s.out ++ (.latchLow :: ((List.range 64).map fun i => .bit (f.getLsbD (63 - i))) ++ [.latchHigh]) }

/-- R172 (a) to (d): the line discipline of a bit-level render that starts with the clock low: `SCK` is 0 whenever `LATCH`
changes, `SDO` changes only while `SCK` is 0, the clock rises exactly 64 times, each time with `LATCH` 0, and at the end
the clock is 0 and `SDO` keeps the last bit sent. The grain of the line actions is log 14. -/
def Obligations.LineDiscipline : Prop :=
  ∀ s : State, s.sck = false →
    let at' (n : Nat) : State := bitRenderPrefix n s
    let rises (n : Nat) : Bool := !(at' n).sck && (at' (n + 1)).sck
    (∀ n, n < renderLineActions.length →
      ((at' n).latch ≠ (at' (n + 1)).latch → (at' n).sck = false ∧ (at' (n + 1)).sck = false) ∧
      ((at' n).sdo ≠ (at' (n + 1)).sdo → (at' n).sck = false ∧ (at' (n + 1)).sck = false) ∧
      (rises n = true → (at' n).latch = false ∧ (at' (n + 1)).latch = false)) ∧
    ((List.range renderLineActions.length).countP rises) = 64 ∧
    (bitRender s).sck = false ∧ (bitRender s).sdo = (bitRender s).wb.getLsbD 0

/-- R173, R175: the receiver that samples the lines (its latch at signal level is log 15, the order of line changes log 14) hears
the same as the receiver that is told the events. -/
def Obligations.SampledLinesCarryTheEvents : Prop :=
  ∀ s : State, s.sck = false →
    Receiver.watch Config.latchSense s.lines (lineLevels renderLineActions (startRender s)) s.rx = (bitRender s).rx

/-! ### The receiver and the display -/

/-- R175: what each event does to the receiver: a bit enters at `SR[0]`, a byte is a shift by 8, `LatchLow` does nothing,
`LatchHigh` copies `SR` to `Q`. -/
def Obligations.ReceiverSteps : Prop :=
  ∀ (sense : LatchSense) (r : Receiver),
    (∀ x : Bool, r.onEvent sense false (.bit x) = { r with sr := r.sr <<< 1 ||| (BitVec.ofBool x).zeroExtend 64 }) ∧
    (∀ b : Byte, r.onEvent sense false (.byte b) = { r with sr := r.sr <<< 8 ||| b.zeroExtend 64 }) ∧
    (∀ b : Byte, r.onEvent sense false (.byte b) =
      Receiver.listen sense false ((List.range 8).map fun i => .bit (b.getLsbD (7 - i))) r) ∧
    (∀ l : Bool, r.onEvent sense l .latchLow = r ∧ r.onEvent sense l .latchHigh = { r with q := r.sr })

/-- R175: with a receiver that listens to renders, the two senses give the same `Q` at every moment after the first
`LatchHigh`, and the same `SR` always. -/
def Obligations.LatchSensesAgree : Prop :=
  ∀ (words : List (DisplayWord × DisplayWord)) (l : Bool) (r : Receiver) (n : Nat),
    let events := (words.flatMap fun x => frameEvents x.1 x.2).take n
    (Receiver.listen .risingEdge l events r).sr = (Receiver.listen .levelHigh l events r).sr ∧
    (.latchHigh ∈ events → (Receiver.listen .risingEdge l events r).q = (Receiver.listen .levelHigh l events r).q)

/-- R176, R224: after a complete render, whatever the receiver held before, `SR` and `Q` are the frame `WA :: WB`; and when the
digits are legal, the display shows exactly them. -/
def Obligations.RenderDefinesTheDisplay : Prop :=
  ∀ s t : State, exec .render s = .next t →
    t.rx.sr = t.wa ++ t.wb ∧ t.rx.q = t.wa ++ t.wb ∧ (s.d.Legal → Shown t.rx.q s.d s.dots)

/-- R176, R226: at the micro-step level the display holds the old frame until the step that raises the latch line, and that
step shows the whole new frame. -/
def Obligations.DisplayChangesOnlyAtLatchHigh : Prop :=
  ∀ s t : State, s.Inv → s.rst = false → s.ph ≠ 0 → microStep s = .next t →
    (s.ph ≠ 12 → t.rx.q = s.rx.q) ∧
    (s.ph = 12 → t.rx.q = frameOf s.wa s.wb ∧ Shown t.rx.q s.d s.dots)

/-- R232: once a frame has been committed, no two cathodes of one position are ever lit together, in any state of any run at
either level. -/
def Obligations.AtMostOneCathodePerPosition : Prop :=
  ∀ s : State, s.Inv → .latchHigh ∈ s.out →
    ∀ (p : Position) (j k : Fin 10), cathodeOn s.rx.q p j = true → cathodeOn s.rx.q p k = true → j = k

/-! ### Reset and the invariant -/

/-- R35, R220: the block after reset. -/
def Obligations.ResetValues : Prop :=
  (∀ p : Position, State.reset.d.get p = 10#4) ∧ State.reset.dots = false ∧ State.reset.wa = 0#32 ∧
  State.reset.wb = 0#32 ∧ State.reset.latch = Config.latchReset ∧ State.reset.err = false ∧ State.reset.cause = 0#2 ∧
  State.reset.out = [] ∧ State.reset.ph = 0#4 ∧ State.reset.shb = 0#8 ∧ State.reset.bc = 0#4 ∧
  State.reset.sdo = false ∧ State.reset.sck = false

/-- R220, R221: a step with `RST` asserted, in any state, gives the block its reset values and emits nothing. Three clauses are
the model's choice and no rule's: the host's words stay (log 9), no response stands after the step (log 8), and after a
reset between renders the receiver keeps what it holds (log 9's inference from R221, marked unsafe there). -/
def Obligations.ResetStep : Prop :=
  ∀ s : State, s.rst = true →
    ∃ t, step s = .next t ∧ microStep s = .next t ∧
      t = { State.reset with rx := t.rx, draws := t.draws, rst := s.rst, pending := s.pending } ∧
      (s.Inv → s.ph = 0 → t.rx = s.rx)

/-- R35, R22, R27: the invariant holds at reset; that a level-high receiver's `Q` is then `SR` where the line is high is log 5. -/
def Obligations.ResetHasTheInvariant : Prop := State.reset.Inv

/-- R22, R27, R29, R26, R64, R136, R163, R176: every step of the machine keeps the invariant. What a reset step does to the receiver
is log 9. -/
def Obligations.StepKeepsTheInvariant : Prop :=
  ∀ s t : State, s.Inv → step s = .next t → t.Inv

/-- R22, R27, R29, R26, R64, R136, R163, R176: every step of the micro-step machine keeps the invariant. What a reset step does to
the receiver is log 9. -/
def Obligations.MicroStepKeepsTheInvariant : Prop :=
  ∀ s t : State, s.Inv → microStep s = .next t → t.Inv
end

