-- ==== Sys2Proof/Laws/State.lean ====
section
/-! SUPPORT. One lemma per field per update of the state, each true by unfolding, so that no later proof unfolds a record
update. -/
namespace Sys2Proof.Machine

@[simp] theorem emit_d (e : OutEvent) (s : State) : (emit e s).d = s.d := rfl
@[simp] theorem emit_dots (e : OutEvent) (s : State) : (emit e s).dots = s.dots := rfl
@[simp] theorem emit_wa (e : OutEvent) (s : State) : (emit e s).wa = s.wa := rfl
@[simp] theorem emit_wb (e : OutEvent) (s : State) : (emit e s).wb = s.wb := rfl
@[simp] theorem emit_latch (e : OutEvent) (s : State) : (emit e s).latch = s.latch := rfl
@[simp] theorem emit_err (e : OutEvent) (s : State) : (emit e s).err = s.err := rfl
@[simp] theorem emit_cause (e : OutEvent) (s : State) : (emit e s).cause = s.cause := rfl
@[simp] theorem emit_out (e : OutEvent) (s : State) : (emit e s).out = s.out ++ [e] := rfl
@[simp] theorem emit_ph (e : OutEvent) (s : State) : (emit e s).ph = s.ph := rfl
@[simp] theorem emit_shb (e : OutEvent) (s : State) : (emit e s).shb = s.shb := rfl
@[simp] theorem emit_bc (e : OutEvent) (s : State) : (emit e s).bc = s.bc := rfl
@[simp] theorem emit_sdo (e : OutEvent) (s : State) : (emit e s).sdo = s.sdo := rfl
@[simp] theorem emit_sck (e : OutEvent) (s : State) : (emit e s).sck = s.sck := rfl
@[simp] theorem emit_resp (e : OutEvent) (s : State) : (emit e s).resp = s.resp := rfl
@[simp] theorem emit_rx (e : OutEvent) (s : State) : (emit e s).rx = s.rx.onEvent Config.latchSense s.latch e := rfl
@[simp] theorem emit_rst (e : OutEvent) (s : State) : (emit e s).rst = s.rst := rfl
@[simp] theorem emit_pending (e : OutEvent) (s : State) : (emit e s).pending = s.pending := rfl
@[simp] theorem emit_draws (e : OutEvent) (s : State) : (emit e s).draws = s.draws := rfl

@[simp] theorem lowerLatch_d (s : State) : (lowerLatch s).d = s.d := rfl
@[simp] theorem lowerLatch_dots (s : State) : (lowerLatch s).dots = s.dots := rfl
@[simp] theorem lowerLatch_wa (s : State) : (lowerLatch s).wa = s.wa := rfl
@[simp] theorem lowerLatch_wb (s : State) : (lowerLatch s).wb = s.wb := rfl
@[simp] theorem lowerLatch_latch (s : State) : (lowerLatch s).latch = false := rfl
@[simp] theorem lowerLatch_err (s : State) : (lowerLatch s).err = s.err := rfl
@[simp] theorem lowerLatch_cause (s : State) : (lowerLatch s).cause = s.cause := rfl
@[simp] theorem lowerLatch_out (s : State) : (lowerLatch s).out = s.out ++ [.latchLow] := rfl
@[simp] theorem lowerLatch_ph (s : State) : (lowerLatch s).ph = s.ph := rfl
@[simp] theorem lowerLatch_shb (s : State) : (lowerLatch s).shb = s.shb := rfl
@[simp] theorem lowerLatch_bc (s : State) : (lowerLatch s).bc = s.bc := rfl
@[simp] theorem lowerLatch_sdo (s : State) : (lowerLatch s).sdo = s.sdo := rfl
@[simp] theorem lowerLatch_sck (s : State) : (lowerLatch s).sck = s.sck := rfl
@[simp] theorem lowerLatch_resp (s : State) : (lowerLatch s).resp = s.resp := rfl
@[simp] theorem lowerLatch_rx (s : State) : (lowerLatch s).rx = s.rx := rfl
@[simp] theorem lowerLatch_rst (s : State) : (lowerLatch s).rst = s.rst := rfl
@[simp] theorem lowerLatch_pending (s : State) : (lowerLatch s).pending = s.pending := rfl
@[simp] theorem lowerLatch_draws (s : State) : (lowerLatch s).draws = s.draws := rfl

@[simp] theorem raiseLatch_d (s : State) : (raiseLatch s).d = s.d := rfl
@[simp] theorem raiseLatch_dots (s : State) : (raiseLatch s).dots = s.dots := rfl
@[simp] theorem raiseLatch_wa (s : State) : (raiseLatch s).wa = s.wa := rfl
@[simp] theorem raiseLatch_wb (s : State) : (raiseLatch s).wb = s.wb := rfl
@[simp] theorem raiseLatch_latch (s : State) : (raiseLatch s).latch = true := rfl
@[simp] theorem raiseLatch_err (s : State) : (raiseLatch s).err = s.err := rfl
@[simp] theorem raiseLatch_cause (s : State) : (raiseLatch s).cause = s.cause := rfl
@[simp] theorem raiseLatch_out (s : State) : (raiseLatch s).out = s.out ++ [.latchHigh] := rfl
@[simp] theorem raiseLatch_ph (s : State) : (raiseLatch s).ph = s.ph := rfl
@[simp] theorem raiseLatch_shb (s : State) : (raiseLatch s).shb = s.shb := rfl
@[simp] theorem raiseLatch_bc (s : State) : (raiseLatch s).bc = s.bc := rfl
@[simp] theorem raiseLatch_sdo (s : State) : (raiseLatch s).sdo = s.sdo := rfl
@[simp] theorem raiseLatch_sck (s : State) : (raiseLatch s).sck = s.sck := rfl
@[simp] theorem raiseLatch_resp (s : State) : (raiseLatch s).resp = s.resp := rfl
@[simp] theorem raiseLatch_rx (s : State) : (raiseLatch s).rx = s.rx.commit := rfl
@[simp] theorem raiseLatch_rst (s : State) : (raiseLatch s).rst = s.rst := rfl
@[simp] theorem raiseLatch_pending (s : State) : (raiseLatch s).pending = s.pending := rfl
@[simp] theorem raiseLatch_draws (s : State) : (raiseLatch s).draws = s.draws := rfl

@[simp] theorem buildA_d (s : State) : (buildA s).d = s.d := rfl
@[simp] theorem buildA_dots (s : State) : (buildA s).dots = s.dots := rfl
@[simp] theorem buildA_wa (s : State) : (buildA s).wa = wordA s.d s.dots := rfl
@[simp] theorem buildA_wb (s : State) : (buildA s).wb = s.wb := rfl
@[simp] theorem buildA_latch (s : State) : (buildA s).latch = s.latch := rfl
@[simp] theorem buildA_err (s : State) : (buildA s).err = s.err := rfl
@[simp] theorem buildA_cause (s : State) : (buildA s).cause = s.cause := rfl
@[simp] theorem buildA_out (s : State) : (buildA s).out = s.out := rfl
@[simp] theorem buildA_ph (s : State) : (buildA s).ph = s.ph := rfl
@[simp] theorem buildA_shb (s : State) : (buildA s).shb = s.shb := rfl
@[simp] theorem buildA_bc (s : State) : (buildA s).bc = s.bc := rfl
@[simp] theorem buildA_sdo (s : State) : (buildA s).sdo = s.sdo := rfl
@[simp] theorem buildA_sck (s : State) : (buildA s).sck = s.sck := rfl
@[simp] theorem buildA_resp (s : State) : (buildA s).resp = s.resp := rfl
@[simp] theorem buildA_rx (s : State) : (buildA s).rx = s.rx := rfl
@[simp] theorem buildA_rst (s : State) : (buildA s).rst = s.rst := rfl
@[simp] theorem buildA_pending (s : State) : (buildA s).pending = s.pending := rfl
@[simp] theorem buildA_draws (s : State) : (buildA s).draws = s.draws := rfl

@[simp] theorem buildB_d (s : State) : (buildB s).d = s.d := rfl
@[simp] theorem buildB_dots (s : State) : (buildB s).dots = s.dots := rfl
@[simp] theorem buildB_wa (s : State) : (buildB s).wa = s.wa := rfl
@[simp] theorem buildB_wb (s : State) : (buildB s).wb = wordB s.d s.dots := rfl
@[simp] theorem buildB_latch (s : State) : (buildB s).latch = s.latch := rfl
@[simp] theorem buildB_err (s : State) : (buildB s).err = s.err := rfl
@[simp] theorem buildB_cause (s : State) : (buildB s).cause = s.cause := rfl
@[simp] theorem buildB_out (s : State) : (buildB s).out = s.out := rfl
@[simp] theorem buildB_ph (s : State) : (buildB s).ph = s.ph := rfl
@[simp] theorem buildB_shb (s : State) : (buildB s).shb = s.shb := rfl
@[simp] theorem buildB_bc (s : State) : (buildB s).bc = s.bc := rfl
@[simp] theorem buildB_sdo (s : State) : (buildB s).sdo = s.sdo := rfl
@[simp] theorem buildB_sck (s : State) : (buildB s).sck = s.sck := rfl
@[simp] theorem buildB_resp (s : State) : (buildB s).resp = s.resp := rfl
@[simp] theorem buildB_rx (s : State) : (buildB s).rx = s.rx := rfl
@[simp] theorem buildB_rst (s : State) : (buildB s).rst = s.rst := rfl
@[simp] theorem buildB_pending (s : State) : (buildB s).pending = s.pending := rfl
@[simp] theorem buildB_draws (s : State) : (buildB s).draws = s.draws := rfl

@[simp] theorem respond_d (r : Response) (s : State) : (respond r s).d = s.d := rfl
@[simp] theorem respond_dots (r : Response) (s : State) : (respond r s).dots = s.dots := rfl
@[simp] theorem respond_wa (r : Response) (s : State) : (respond r s).wa = s.wa := rfl
@[simp] theorem respond_wb (r : Response) (s : State) : (respond r s).wb = s.wb := rfl
@[simp] theorem respond_latch (r : Response) (s : State) : (respond r s).latch = s.latch := rfl
@[simp] theorem respond_err (r : Response) (s : State) : (respond r s).err = s.err := rfl
@[simp] theorem respond_cause (r : Response) (s : State) : (respond r s).cause = s.cause := rfl
@[simp] theorem respond_out (r : Response) (s : State) : (respond r s).out = s.out := rfl
@[simp] theorem respond_ph (r : Response) (s : State) : (respond r s).ph = s.ph := rfl
@[simp] theorem respond_shb (r : Response) (s : State) : (respond r s).shb = s.shb := rfl
@[simp] theorem respond_bc (r : Response) (s : State) : (respond r s).bc = s.bc := rfl
@[simp] theorem respond_sdo (r : Response) (s : State) : (respond r s).sdo = s.sdo := rfl
@[simp] theorem respond_sck (r : Response) (s : State) : (respond r s).sck = s.sck := rfl
@[simp] theorem respond_resp (r : Response) (s : State) : (respond r s).resp = some r := rfl
@[simp] theorem respond_rx (r : Response) (s : State) : (respond r s).rx = s.rx := rfl
@[simp] theorem respond_rst (r : Response) (s : State) : (respond r s).rst = s.rst := rfl
@[simp] theorem respond_pending (r : Response) (s : State) : (respond r s).pending = s.pending := rfl
@[simp] theorem respond_draws (r : Response) (s : State) : (respond r s).draws = s.draws := rfl

@[simp] theorem reject_d (c : Cause) (s : State) : (reject c s).d = s.d := rfl
@[simp] theorem reject_dots (c : Cause) (s : State) : (reject c s).dots = s.dots := rfl
@[simp] theorem reject_wa (c : Cause) (s : State) : (reject c s).wa = s.wa := rfl
@[simp] theorem reject_wb (c : Cause) (s : State) : (reject c s).wb = s.wb := rfl
@[simp] theorem reject_latch (c : Cause) (s : State) : (reject c s).latch = s.latch := rfl
@[simp] theorem reject_err (c : Cause) (s : State) : (reject c s).err = true := rfl
@[simp] theorem reject_cause (c : Cause) (s : State) : (reject c s).cause = c.code := rfl
@[simp] theorem reject_out (c : Cause) (s : State) : (reject c s).out = s.out := rfl
@[simp] theorem reject_ph (c : Cause) (s : State) : (reject c s).ph = s.ph := rfl
@[simp] theorem reject_shb (c : Cause) (s : State) : (reject c s).shb = s.shb := rfl
@[simp] theorem reject_bc (c : Cause) (s : State) : (reject c s).bc = s.bc := rfl
@[simp] theorem reject_sdo (c : Cause) (s : State) : (reject c s).sdo = s.sdo := rfl
@[simp] theorem reject_sck (c : Cause) (s : State) : (reject c s).sck = s.sck := rfl
@[simp] theorem reject_resp (c : Cause) (s : State) : (reject c s).resp = some (.invalidArg c) := rfl
@[simp] theorem reject_rx (c : Cause) (s : State) : (reject c s).rx = s.rx := rfl
@[simp] theorem reject_rst (c : Cause) (s : State) : (reject c s).rst = s.rst := rfl
@[simp] theorem reject_pending (c : Cause) (s : State) : (reject c s).pending = s.pending := rfl
@[simp] theorem reject_draws (c : Cause) (s : State) : (reject c s).draws = s.draws := rfl

@[simp] theorem endResponse_d (s : State) : (endResponse s).d = s.d := rfl
@[simp] theorem endResponse_dots (s : State) : (endResponse s).dots = s.dots := rfl
@[simp] theorem endResponse_wa (s : State) : (endResponse s).wa = s.wa := rfl
@[simp] theorem endResponse_wb (s : State) : (endResponse s).wb = s.wb := rfl
@[simp] theorem endResponse_latch (s : State) : (endResponse s).latch = s.latch := rfl
@[simp] theorem endResponse_err (s : State) : (endResponse s).err = s.err := rfl
@[simp] theorem endResponse_cause (s : State) : (endResponse s).cause = s.cause := rfl
@[simp] theorem endResponse_out (s : State) : (endResponse s).out = s.out := rfl
@[simp] theorem endResponse_ph (s : State) : (endResponse s).ph = s.ph := rfl
@[simp] theorem endResponse_shb (s : State) : (endResponse s).shb = s.shb := rfl
@[simp] theorem endResponse_bc (s : State) : (endResponse s).bc = s.bc := rfl
@[simp] theorem endResponse_sdo (s : State) : (endResponse s).sdo = s.sdo := rfl
@[simp] theorem endResponse_sck (s : State) : (endResponse s).sck = s.sck := rfl
@[simp] theorem endResponse_resp (s : State) : (endResponse s).resp = none := rfl
@[simp] theorem endResponse_rx (s : State) : (endResponse s).rx = s.rx := rfl
@[simp] theorem endResponse_rst (s : State) : (endResponse s).rst = s.rst := rfl
@[simp] theorem endResponse_pending (s : State) : (endResponse s).pending = s.pending := rfl
@[simp] theorem endResponse_draws (s : State) : (endResponse s).draws = s.draws := rfl

@[simp] theorem writeDigit_d (p : Position) (v : DigitCode) (s : State) : (writeDigit p v s).d = s.d.set p v := rfl
@[simp] theorem writeDigit_dots (p : Position) (v : DigitCode) (s : State) : (writeDigit p v s).dots = s.dots := rfl
@[simp] theorem writeDigit_wa (p : Position) (v : DigitCode) (s : State) : (writeDigit p v s).wa = s.wa := rfl
@[simp] theorem writeDigit_wb (p : Position) (v : DigitCode) (s : State) : (writeDigit p v s).wb = s.wb := rfl
@[simp] theorem writeDigit_latch (p : Position) (v : DigitCode) (s : State) : (writeDigit p v s).latch = s.latch := rfl
@[simp] theorem writeDigit_err (p : Position) (v : DigitCode) (s : State) : (writeDigit p v s).err = s.err := rfl
@[simp] theorem writeDigit_cause (p : Position) (v : DigitCode) (s : State) : (writeDigit p v s).cause = s.cause := rfl
@[simp] theorem writeDigit_out (p : Position) (v : DigitCode) (s : State) : (writeDigit p v s).out = s.out := rfl
@[simp] theorem writeDigit_ph (p : Position) (v : DigitCode) (s : State) : (writeDigit p v s).ph = s.ph := rfl
@[simp] theorem writeDigit_shb (p : Position) (v : DigitCode) (s : State) : (writeDigit p v s).shb = s.shb := rfl
@[simp] theorem writeDigit_bc (p : Position) (v : DigitCode) (s : State) : (writeDigit p v s).bc = s.bc := rfl
@[simp] theorem writeDigit_sdo (p : Position) (v : DigitCode) (s : State) : (writeDigit p v s).sdo = s.sdo := rfl
@[simp] theorem writeDigit_sck (p : Position) (v : DigitCode) (s : State) : (writeDigit p v s).sck = s.sck := rfl
@[simp] theorem writeDigit_resp (p : Position) (v : DigitCode) (s : State) : (writeDigit p v s).resp = s.resp := rfl
@[simp] theorem writeDigit_rx (p : Position) (v : DigitCode) (s : State) : (writeDigit p v s).rx = s.rx := rfl
@[simp] theorem writeDigit_rst (p : Position) (v : DigitCode) (s : State) : (writeDigit p v s).rst = s.rst := rfl
@[simp] theorem writeDigit_pending (p : Position) (v : DigitCode) (s : State) : (writeDigit p v s).pending = s.pending := rfl
@[simp] theorem writeDigit_draws (p : Position) (v : DigitCode) (s : State) : (writeDigit p v s).draws = s.draws := rfl

@[simp] theorem writeDots_d (e : Bool) (s : State) : (writeDots e s).d = s.d := rfl
@[simp] theorem writeDots_dots (e : Bool) (s : State) : (writeDots e s).dots = e := rfl
@[simp] theorem writeDots_wa (e : Bool) (s : State) : (writeDots e s).wa = s.wa := rfl
@[simp] theorem writeDots_wb (e : Bool) (s : State) : (writeDots e s).wb = s.wb := rfl
@[simp] theorem writeDots_latch (e : Bool) (s : State) : (writeDots e s).latch = s.latch := rfl
@[simp] theorem writeDots_err (e : Bool) (s : State) : (writeDots e s).err = s.err := rfl
@[simp] theorem writeDots_cause (e : Bool) (s : State) : (writeDots e s).cause = s.cause := rfl
@[simp] theorem writeDots_out (e : Bool) (s : State) : (writeDots e s).out = s.out := rfl
@[simp] theorem writeDots_ph (e : Bool) (s : State) : (writeDots e s).ph = s.ph := rfl
@[simp] theorem writeDots_shb (e : Bool) (s : State) : (writeDots e s).shb = s.shb := rfl
@[simp] theorem writeDots_bc (e : Bool) (s : State) : (writeDots e s).bc = s.bc := rfl
@[simp] theorem writeDots_sdo (e : Bool) (s : State) : (writeDots e s).sdo = s.sdo := rfl
@[simp] theorem writeDots_sck (e : Bool) (s : State) : (writeDots e s).sck = s.sck := rfl
@[simp] theorem writeDots_resp (e : Bool) (s : State) : (writeDots e s).resp = s.resp := rfl
@[simp] theorem writeDots_rx (e : Bool) (s : State) : (writeDots e s).rx = s.rx := rfl
@[simp] theorem writeDots_rst (e : Bool) (s : State) : (writeDots e s).rst = s.rst := rfl
@[simp] theorem writeDots_pending (e : Bool) (s : State) : (writeDots e s).pending = s.pending := rfl
@[simp] theorem writeDots_draws (e : Bool) (s : State) : (writeDots e s).draws = s.draws := rfl

@[simp] theorem sendByte_d (b : Byte) (s : State) : (sendByte b s).d = s.d := rfl
@[simp] theorem sendByte_dots (b : Byte) (s : State) : (sendByte b s).dots = s.dots := rfl
@[simp] theorem sendByte_wa (b : Byte) (s : State) : (sendByte b s).wa = s.wa := rfl
@[simp] theorem sendByte_wb (b : Byte) (s : State) : (sendByte b s).wb = s.wb := rfl
@[simp] theorem sendByte_latch (b : Byte) (s : State) : (sendByte b s).latch = s.latch := rfl
@[simp] theorem sendByte_err (b : Byte) (s : State) : (sendByte b s).err = s.err := rfl
@[simp] theorem sendByte_cause (b : Byte) (s : State) : (sendByte b s).cause = s.cause := rfl
@[simp] theorem sendByte_out (b : Byte) (s : State) : (sendByte b s).out = s.out ++ [.byte b] := rfl
@[simp] theorem sendByte_ph (b : Byte) (s : State) : (sendByte b s).ph = s.ph := rfl
@[simp] theorem sendByte_shb (b : Byte) (s : State) : (sendByte b s).shb = b := rfl
@[simp] theorem sendByte_bc (b : Byte) (s : State) : (sendByte b s).bc = s.bc := rfl
@[simp] theorem sendByte_sdo (b : Byte) (s : State) : (sendByte b s).sdo = s.sdo := rfl
@[simp] theorem sendByte_sck (b : Byte) (s : State) : (sendByte b s).sck = s.sck := rfl
@[simp] theorem sendByte_resp (b : Byte) (s : State) : (sendByte b s).resp = s.resp := rfl
@[simp] theorem sendByte_rx (b : Byte) (s : State) : (sendByte b s).rx = s.rx.onEvent Config.latchSense s.latch (.byte b) := rfl
@[simp] theorem sendByte_rst (b : Byte) (s : State) : (sendByte b s).rst = s.rst := rfl
@[simp] theorem sendByte_pending (b : Byte) (s : State) : (sendByte b s).pending = s.pending := rfl
@[simp] theorem sendByte_draws (b : Byte) (s : State) : (sendByte b s).draws = s.draws := rfl

@[simp] theorem advancePhase_d (s : State) : (advancePhase s).d = s.d := rfl
@[simp] theorem advancePhase_dots (s : State) : (advancePhase s).dots = s.dots := rfl
@[simp] theorem advancePhase_wa (s : State) : (advancePhase s).wa = s.wa := rfl
@[simp] theorem advancePhase_wb (s : State) : (advancePhase s).wb = s.wb := rfl
@[simp] theorem advancePhase_latch (s : State) : (advancePhase s).latch = s.latch := rfl
@[simp] theorem advancePhase_err (s : State) : (advancePhase s).err = s.err := rfl
@[simp] theorem advancePhase_cause (s : State) : (advancePhase s).cause = s.cause := rfl
@[simp] theorem advancePhase_out (s : State) : (advancePhase s).out = s.out := rfl
@[simp] theorem advancePhase_ph (s : State) : (advancePhase s).ph = nextPhase s.ph := rfl
@[simp] theorem advancePhase_shb (s : State) : (advancePhase s).shb = s.shb := rfl
@[simp] theorem advancePhase_bc (s : State) : (advancePhase s).bc = s.bc := rfl
@[simp] theorem advancePhase_sdo (s : State) : (advancePhase s).sdo = s.sdo := rfl
@[simp] theorem advancePhase_sck (s : State) : (advancePhase s).sck = s.sck := rfl
@[simp] theorem advancePhase_resp (s : State) : (advancePhase s).resp = s.resp := rfl
@[simp] theorem advancePhase_rx (s : State) : (advancePhase s).rx = s.rx := rfl
@[simp] theorem advancePhase_rst (s : State) : (advancePhase s).rst = s.rst := rfl
@[simp] theorem advancePhase_pending (s : State) : (advancePhase s).pending = s.pending := rfl
@[simp] theorem advancePhase_draws (s : State) : (advancePhase s).draws = s.draws := rfl

@[simp] theorem takeCommand_d (rest : List CommandWord) (s : State) : (takeCommand rest s).d = s.d := rfl
@[simp] theorem takeCommand_dots (rest : List CommandWord) (s : State) : (takeCommand rest s).dots = s.dots := rfl
@[simp] theorem takeCommand_wa (rest : List CommandWord) (s : State) : (takeCommand rest s).wa = s.wa := rfl
@[simp] theorem takeCommand_wb (rest : List CommandWord) (s : State) : (takeCommand rest s).wb = s.wb := rfl
@[simp] theorem takeCommand_latch (rest : List CommandWord) (s : State) : (takeCommand rest s).latch = s.latch := rfl
@[simp] theorem takeCommand_err (rest : List CommandWord) (s : State) : (takeCommand rest s).err = s.err := rfl
@[simp] theorem takeCommand_cause (rest : List CommandWord) (s : State) : (takeCommand rest s).cause = s.cause := rfl
@[simp] theorem takeCommand_out (rest : List CommandWord) (s : State) : (takeCommand rest s).out = s.out := rfl
@[simp] theorem takeCommand_ph (rest : List CommandWord) (s : State) : (takeCommand rest s).ph = s.ph := rfl
@[simp] theorem takeCommand_shb (rest : List CommandWord) (s : State) : (takeCommand rest s).shb = s.shb := rfl
@[simp] theorem takeCommand_bc (rest : List CommandWord) (s : State) : (takeCommand rest s).bc = s.bc := rfl
@[simp] theorem takeCommand_sdo (rest : List CommandWord) (s : State) : (takeCommand rest s).sdo = s.sdo := rfl
@[simp] theorem takeCommand_sck (rest : List CommandWord) (s : State) : (takeCommand rest s).sck = s.sck := rfl
@[simp] theorem takeCommand_resp (rest : List CommandWord) (s : State) : (takeCommand rest s).resp = none := rfl
@[simp] theorem takeCommand_rx (rest : List CommandWord) (s : State) : (takeCommand rest s).rx = s.rx := rfl
@[simp] theorem takeCommand_rst (rest : List CommandWord) (s : State) : (takeCommand rest s).rst = s.rst := rfl
@[simp] theorem takeCommand_pending (rest : List CommandWord) (s : State) : (takeCommand rest s).pending = rest := rfl
@[simp] theorem takeCommand_draws (rest : List CommandWord) (s : State) : (takeCommand rest s).draws = s.draws := rfl

@[simp] theorem startRender_d (s : State) : (startRender s).d = s.d := rfl
@[simp] theorem startRender_dots (s : State) : (startRender s).dots = s.dots := rfl
@[simp] theorem startRender_wa (s : State) : (startRender s).wa = s.wa := rfl
@[simp] theorem startRender_wb (s : State) : (startRender s).wb = s.wb := rfl
@[simp] theorem startRender_latch (s : State) : (startRender s).latch = s.latch := rfl
@[simp] theorem startRender_err (s : State) : (startRender s).err = s.err := rfl
@[simp] theorem startRender_cause (s : State) : (startRender s).cause = s.cause := rfl
@[simp] theorem startRender_out (s : State) : (startRender s).out = s.out := rfl
@[simp] theorem startRender_ph (s : State) : (startRender s).ph = 1 := rfl
@[simp] theorem startRender_shb (s : State) : (startRender s).shb = s.shb := rfl
@[simp] theorem startRender_bc (s : State) : (startRender s).bc = s.bc := rfl
@[simp] theorem startRender_sdo (s : State) : (startRender s).sdo = s.sdo := rfl
@[simp] theorem startRender_sck (s : State) : (startRender s).sck = s.sck := rfl
@[simp] theorem startRender_resp (s : State) : (startRender s).resp = s.resp := rfl
@[simp] theorem startRender_rx (s : State) : (startRender s).rx = s.rx := rfl
@[simp] theorem startRender_rst (s : State) : (startRender s).rst = s.rst := rfl
@[simp] theorem startRender_pending (s : State) : (startRender s).pending = s.pending := rfl
@[simp] theorem startRender_draws (s : State) : (startRender s).draws = s.draws := rfl

@[simp] theorem loadByte_d (b : Byte) (s : State) : (loadByte b s).d = s.d := rfl
@[simp] theorem loadByte_dots (b : Byte) (s : State) : (loadByte b s).dots = s.dots := rfl
@[simp] theorem loadByte_wa (b : Byte) (s : State) : (loadByte b s).wa = s.wa := rfl
@[simp] theorem loadByte_wb (b : Byte) (s : State) : (loadByte b s).wb = s.wb := rfl
@[simp] theorem loadByte_latch (b : Byte) (s : State) : (loadByte b s).latch = s.latch := rfl
@[simp] theorem loadByte_err (b : Byte) (s : State) : (loadByte b s).err = s.err := rfl
@[simp] theorem loadByte_cause (b : Byte) (s : State) : (loadByte b s).cause = s.cause := rfl
@[simp] theorem loadByte_out (b : Byte) (s : State) : (loadByte b s).out = s.out := rfl
@[simp] theorem loadByte_ph (b : Byte) (s : State) : (loadByte b s).ph = s.ph := rfl
@[simp] theorem loadByte_shb (b : Byte) (s : State) : (loadByte b s).shb = b := rfl
@[simp] theorem loadByte_bc (b : Byte) (s : State) : (loadByte b s).bc = 0 := rfl
@[simp] theorem loadByte_sdo (b : Byte) (s : State) : (loadByte b s).sdo = s.sdo := rfl
@[simp] theorem loadByte_sck (b : Byte) (s : State) : (loadByte b s).sck = s.sck := rfl
@[simp] theorem loadByte_resp (b : Byte) (s : State) : (loadByte b s).resp = s.resp := rfl
@[simp] theorem loadByte_rx (b : Byte) (s : State) : (loadByte b s).rx = s.rx := rfl
@[simp] theorem loadByte_rst (b : Byte) (s : State) : (loadByte b s).rst = s.rst := rfl
@[simp] theorem loadByte_pending (b : Byte) (s : State) : (loadByte b s).pending = s.pending := rfl
@[simp] theorem loadByte_draws (b : Byte) (s : State) : (loadByte b s).draws = s.draws := rfl

@[simp] theorem presentBit_d (s : State) : (presentBit s).d = s.d := rfl
@[simp] theorem presentBit_dots (s : State) : (presentBit s).dots = s.dots := rfl
@[simp] theorem presentBit_wa (s : State) : (presentBit s).wa = s.wa := rfl
@[simp] theorem presentBit_wb (s : State) : (presentBit s).wb = s.wb := rfl
@[simp] theorem presentBit_latch (s : State) : (presentBit s).latch = s.latch := rfl
@[simp] theorem presentBit_err (s : State) : (presentBit s).err = s.err := rfl
@[simp] theorem presentBit_cause (s : State) : (presentBit s).cause = s.cause := rfl
@[simp] theorem presentBit_out (s : State) : (presentBit s).out = s.out := rfl
@[simp] theorem presentBit_ph (s : State) : (presentBit s).ph = s.ph := rfl
@[simp] theorem presentBit_shb (s : State) : (presentBit s).shb = s.shb := rfl
@[simp] theorem presentBit_bc (s : State) : (presentBit s).bc = s.bc := rfl
@[simp] theorem presentBit_sdo (s : State) : (presentBit s).sdo = s.shb.getLsbD 7 := rfl
@[simp] theorem presentBit_sck (s : State) : (presentBit s).sck = s.sck := rfl
@[simp] theorem presentBit_resp (s : State) : (presentBit s).resp = s.resp := rfl
@[simp] theorem presentBit_rx (s : State) : (presentBit s).rx = s.rx := rfl
@[simp] theorem presentBit_rst (s : State) : (presentBit s).rst = s.rst := rfl
@[simp] theorem presentBit_pending (s : State) : (presentBit s).pending = s.pending := rfl
@[simp] theorem presentBit_draws (s : State) : (presentBit s).draws = s.draws := rfl

@[simp] theorem raiseClock_d (s : State) : (raiseClock s).d = s.d := rfl
@[simp] theorem raiseClock_dots (s : State) : (raiseClock s).dots = s.dots := rfl
@[simp] theorem raiseClock_wa (s : State) : (raiseClock s).wa = s.wa := rfl
@[simp] theorem raiseClock_wb (s : State) : (raiseClock s).wb = s.wb := rfl
@[simp] theorem raiseClock_latch (s : State) : (raiseClock s).latch = s.latch := rfl
@[simp] theorem raiseClock_err (s : State) : (raiseClock s).err = s.err := rfl
@[simp] theorem raiseClock_cause (s : State) : (raiseClock s).cause = s.cause := rfl
@[simp] theorem raiseClock_out (s : State) : (raiseClock s).out = s.out ++ [.bit s.sdo] := rfl
@[simp] theorem raiseClock_ph (s : State) : (raiseClock s).ph = s.ph := rfl
@[simp] theorem raiseClock_shb (s : State) : (raiseClock s).shb = s.shb := rfl
@[simp] theorem raiseClock_bc (s : State) : (raiseClock s).bc = s.bc := rfl
@[simp] theorem raiseClock_sdo (s : State) : (raiseClock s).sdo = s.sdo := rfl
@[simp] theorem raiseClock_sck (s : State) : (raiseClock s).sck = true := rfl
@[simp] theorem raiseClock_resp (s : State) : (raiseClock s).resp = s.resp := rfl
@[simp] theorem raiseClock_rx (s : State) : (raiseClock s).rx = s.rx.onEvent Config.latchSense s.latch (.bit s.sdo) := rfl
@[simp] theorem raiseClock_rst (s : State) : (raiseClock s).rst = s.rst := rfl
@[simp] theorem raiseClock_pending (s : State) : (raiseClock s).pending = s.pending := rfl
@[simp] theorem raiseClock_draws (s : State) : (raiseClock s).draws = s.draws := rfl

@[simp] theorem lowerClock_d (s : State) : (lowerClock s).d = s.d := rfl
@[simp] theorem lowerClock_dots (s : State) : (lowerClock s).dots = s.dots := rfl
@[simp] theorem lowerClock_wa (s : State) : (lowerClock s).wa = s.wa := rfl
@[simp] theorem lowerClock_wb (s : State) : (lowerClock s).wb = s.wb := rfl
@[simp] theorem lowerClock_latch (s : State) : (lowerClock s).latch = s.latch := rfl
@[simp] theorem lowerClock_err (s : State) : (lowerClock s).err = s.err := rfl
@[simp] theorem lowerClock_cause (s : State) : (lowerClock s).cause = s.cause := rfl
@[simp] theorem lowerClock_out (s : State) : (lowerClock s).out = s.out := rfl
@[simp] theorem lowerClock_ph (s : State) : (lowerClock s).ph = s.ph := rfl
@[simp] theorem lowerClock_shb (s : State) : (lowerClock s).shb = s.shb <<< 1 := rfl
@[simp] theorem lowerClock_bc (s : State) : (lowerClock s).bc = s.bc + 1 := rfl
@[simp] theorem lowerClock_sdo (s : State) : (lowerClock s).sdo = s.sdo := rfl
@[simp] theorem lowerClock_sck (s : State) : (lowerClock s).sck = false := rfl
@[simp] theorem lowerClock_resp (s : State) : (lowerClock s).resp = s.resp := rfl
@[simp] theorem lowerClock_rx (s : State) : (lowerClock s).rx = s.rx := rfl
@[simp] theorem lowerClock_rst (s : State) : (lowerClock s).rst = s.rst := rfl
@[simp] theorem lowerClock_pending (s : State) : (lowerClock s).pending = s.pending := rfl
@[simp] theorem lowerClock_draws (s : State) : (lowerClock s).draws = s.draws := rfl

@[simp] theorem sendWord_d (w : DisplayWord) (s : State) : (sendWord w s).d = s.d := rfl
@[simp] theorem sendWord_dots (w : DisplayWord) (s : State) : (sendWord w s).dots = s.dots := rfl
@[simp] theorem sendWord_wa (w : DisplayWord) (s : State) : (sendWord w s).wa = s.wa := rfl
@[simp] theorem sendWord_wb (w : DisplayWord) (s : State) : (sendWord w s).wb = s.wb := rfl
@[simp] theorem sendWord_latch (w : DisplayWord) (s : State) : (sendWord w s).latch = s.latch := rfl
@[simp] theorem sendWord_err (w : DisplayWord) (s : State) : (sendWord w s).err = s.err := rfl
@[simp] theorem sendWord_cause (w : DisplayWord) (s : State) : (sendWord w s).cause = s.cause := rfl
@[simp] theorem sendWord_out (w : DisplayWord) (s : State) : (sendWord w s).out = s.out ++ [.byte (byteOf w 3), .byte (byteOf w 2), .byte (byteOf w 1), .byte (byteOf w 0)] := by
  simp [sendWord]
@[simp] theorem sendWord_ph (w : DisplayWord) (s : State) : (sendWord w s).ph = s.ph := rfl
@[simp] theorem sendWord_shb (w : DisplayWord) (s : State) : (sendWord w s).shb = s.shb := rfl
@[simp] theorem sendWord_bc (w : DisplayWord) (s : State) : (sendWord w s).bc = s.bc := rfl
@[simp] theorem sendWord_sdo (w : DisplayWord) (s : State) : (sendWord w s).sdo = s.sdo := rfl
@[simp] theorem sendWord_sck (w : DisplayWord) (s : State) : (sendWord w s).sck = s.sck := rfl
@[simp] theorem sendWord_resp (w : DisplayWord) (s : State) : (sendWord w s).resp = s.resp := rfl
@[simp] theorem sendWord_rst (w : DisplayWord) (s : State) : (sendWord w s).rst = s.rst := rfl
@[simp] theorem sendWord_pending (w : DisplayWord) (s : State) : (sendWord w s).pending = s.pending := rfl
@[simp] theorem sendWord_draws (w : DisplayWord) (s : State) : (sendWord w s).draws = s.draws := rfl

@[simp] theorem renderOpen_d (s : State) : (renderOpen s).d = s.d := rfl
@[simp] theorem renderOpen_dots (s : State) : (renderOpen s).dots = s.dots := rfl
@[simp] theorem renderOpen_wa (s : State) : (renderOpen s).wa = wordA s.d s.dots := rfl
@[simp] theorem renderOpen_wb (s : State) : (renderOpen s).wb = s.wb := rfl
@[simp] theorem renderOpen_latch (s : State) : (renderOpen s).latch = false := rfl
@[simp] theorem renderOpen_err (s : State) : (renderOpen s).err = s.err := rfl
@[simp] theorem renderOpen_cause (s : State) : (renderOpen s).cause = s.cause := rfl
@[simp] theorem renderOpen_out (s : State) : (renderOpen s).out = s.out ++ [.latchLow] := by
  simp [renderOpen]
@[simp] theorem renderOpen_ph (s : State) : (renderOpen s).ph = s.ph := rfl
@[simp] theorem renderOpen_shb (s : State) : (renderOpen s).shb = s.shb := rfl
@[simp] theorem renderOpen_bc (s : State) : (renderOpen s).bc = s.bc := rfl
@[simp] theorem renderOpen_sdo (s : State) : (renderOpen s).sdo = s.sdo := rfl
@[simp] theorem renderOpen_sck (s : State) : (renderOpen s).sck = s.sck := rfl
@[simp] theorem renderOpen_resp (s : State) : (renderOpen s).resp = s.resp := rfl
@[simp] theorem renderOpen_rx (s : State) : (renderOpen s).rx = s.rx := rfl
@[simp] theorem renderOpen_rst (s : State) : (renderOpen s).rst = s.rst := rfl
@[simp] theorem renderOpen_pending (s : State) : (renderOpen s).pending = s.pending := rfl
@[simp] theorem renderOpen_draws (s : State) : (renderOpen s).draws = s.draws := rfl

@[simp] theorem renderMiddle_d (s : State) : (renderMiddle s).d = s.d := by
  simp [renderMiddle]
@[simp] theorem renderMiddle_dots (s : State) : (renderMiddle s).dots = s.dots := by
  simp [renderMiddle]
@[simp] theorem renderMiddle_wa (s : State) : (renderMiddle s).wa = s.wa := by
  simp [renderMiddle]
@[simp] theorem renderMiddle_wb (s : State) : (renderMiddle s).wb = wordB s.d s.dots := by
  simp [renderMiddle]
@[simp] theorem renderMiddle_latch (s : State) : (renderMiddle s).latch = s.latch := by
  simp [renderMiddle]
@[simp] theorem renderMiddle_err (s : State) : (renderMiddle s).err = s.err := by
  simp [renderMiddle]
@[simp] theorem renderMiddle_cause (s : State) : (renderMiddle s).cause = s.cause := by
  simp [renderMiddle]
@[simp] theorem renderMiddle_out (s : State) : (renderMiddle s).out = s.out ++ [.byte (byteOf s.wa 3), .byte (byteOf s.wa 2), .byte (byteOf s.wa 1), .byte (byteOf s.wa 0)] := by
  simp [renderMiddle]
@[simp] theorem renderMiddle_ph (s : State) : (renderMiddle s).ph = s.ph := by
  simp [renderMiddle]
@[simp] theorem renderMiddle_shb (s : State) : (renderMiddle s).shb = s.shb := by
  simp [renderMiddle]
@[simp] theorem renderMiddle_bc (s : State) : (renderMiddle s).bc = s.bc := by
  simp [renderMiddle]
@[simp] theorem renderMiddle_sdo (s : State) : (renderMiddle s).sdo = s.sdo := by
  simp [renderMiddle]
@[simp] theorem renderMiddle_sck (s : State) : (renderMiddle s).sck = s.sck := by
  simp [renderMiddle]
@[simp] theorem renderMiddle_resp (s : State) : (renderMiddle s).resp = s.resp := by
  simp [renderMiddle]
@[simp] theorem renderMiddle_rx (s : State) : (renderMiddle s).rx = (sendWord s.wa s).rx := by
  simp [renderMiddle]
@[simp] theorem renderMiddle_rst (s : State) : (renderMiddle s).rst = s.rst := by
  simp [renderMiddle]
@[simp] theorem renderMiddle_pending (s : State) : (renderMiddle s).pending = s.pending := by
  simp [renderMiddle]
@[simp] theorem renderMiddle_draws (s : State) : (renderMiddle s).draws = s.draws := by
  simp [renderMiddle]

@[simp] theorem renderClose_d (s : State) : (renderClose s).d = s.d := by
  simp [renderClose]
@[simp] theorem renderClose_dots (s : State) : (renderClose s).dots = s.dots := by
  simp [renderClose]
@[simp] theorem renderClose_wa (s : State) : (renderClose s).wa = s.wa := by
  simp [renderClose]
@[simp] theorem renderClose_wb (s : State) : (renderClose s).wb = s.wb := by
  simp [renderClose]
@[simp] theorem renderClose_latch (s : State) : (renderClose s).latch = true := by
  simp [renderClose]
@[simp] theorem renderClose_err (s : State) : (renderClose s).err = s.err := by
  simp [renderClose]
@[simp] theorem renderClose_cause (s : State) : (renderClose s).cause = s.cause := by
  simp [renderClose]
@[simp] theorem renderClose_out (s : State) : (renderClose s).out = s.out ++ [.byte (byteOf s.wb 3), .byte (byteOf s.wb 2), .byte (byteOf s.wb 1), .byte (byteOf s.wb 0)] ++ [.latchHigh] := by
  simp [renderClose]
@[simp] theorem renderClose_ph (s : State) : (renderClose s).ph = s.ph := by
  simp [renderClose]
@[simp] theorem renderClose_shb (s : State) : (renderClose s).shb = s.shb := by
  simp [renderClose]
@[simp] theorem renderClose_bc (s : State) : (renderClose s).bc = s.bc := by
  simp [renderClose]
@[simp] theorem renderClose_sdo (s : State) : (renderClose s).sdo = s.sdo := by
  simp [renderClose]
@[simp] theorem renderClose_sck (s : State) : (renderClose s).sck = s.sck := by
  simp [renderClose]
@[simp] theorem renderClose_resp (s : State) : (renderClose s).resp = s.resp := by
  simp [renderClose]
@[simp] theorem renderClose_rx (s : State) : (renderClose s).rx = (sendWord s.wb s).rx.commit := by
  simp [renderClose]
@[simp] theorem renderClose_rst (s : State) : (renderClose s).rst = s.rst := by
  simp [renderClose]
@[simp] theorem renderClose_pending (s : State) : (renderClose s).pending = s.pending := by
  simp [renderClose]
@[simp] theorem renderClose_draws (s : State) : (renderClose s).draws = s.draws := by
  simp [renderClose]

end Sys2Proof.Machine
end

