-- ==== Sys2Proof/Laws/Ops.lean ====
section
/-! SUPPORT. What each shared operation can do, said once: the operands, the digit registers, the words on the bus, the
sequencer's rows, and the cases of a step. Later proofs cite these instead of unfolding. -/
namespace Sys2Proof.Machine

/-! ### Positions, Digit Values and the digit registers -/

@[simp] theorem positionOf_number (q : Position) : positionOf q.number = some q := by cases q <;> rfl

theorem number_range (q : Position) : 1 ≤ q.number ∧ q.number ≤ 6 := by cases q <;> decide

/-- A number names a position exactly when it is that position's number (R51). -/
theorem positionOf_eq_some_iff (p : Nat) (q : Position) : positionOf p = some q ↔ p = q.number := by
  constructor
  · intro h
    unfold positionOf at h
    split at h <;> first | (cases h; rfl) | cases h
  · rintro rfl
    exact positionOf_number q

/-- A number names no position exactly when it is 0 or above 6 (R51, R192). -/
theorem positionOf_eq_none_iff (p : Nat) : positionOf p = none ↔ p < 1 ∨ 6 < p := by
  unfold positionOf
  split <;> simp_all
  omega

theorem digitOf_of_le {v : Nat} (h : v ≤ 10) : digitOf v = some (BitVec.ofNat 4 v) := by simp [digitOf, h]

theorem digitOf_of_gt {v : Nat} (h : 10 < v) : digitOf v = none := by simp [digitOf, Nat.not_le.mpr h]

/-- A stored Digit Value is at most 10 (R22, R110). -/
theorem digitOf_toNat_le {v : Nat} {x : DigitCode} (h : digitOf v = some x) : x.toNat = v ∧ v ≤ 10 := by
  unfold digitOf at h
  split at h
  · cases h
    exact ⟨by simp [BitVec.toNat_ofNat]; omega, ‹_›⟩
  · cases h

@[simp] theorem digits_get_set_same (d : Digits) (p : Position) (v : DigitCode) : (d.set p v).get p = v := by
  cases p <;> rfl

theorem digits_get_set_other (d : Digits) {p q : Position} (v : DigitCode) (h : q ≠ p) :
    (d.set p v).get q = d.get q := by
  cases p <;> cases q <;> first | rfl | exact absurd rfl h

@[simp] theorem digits_set_set (d : Digits) (p : Position) (v w : DigitCode) : (d.set p v).set p w = d.set p w := by
  cases p <;> rfl

theorem digits_set_comm (d : Digits) {p q : Position} (v w : DigitCode) (h : p ≠ q) :
    (d.set p v).set q w = (d.set q w).set p v := by
  cases p <;> cases q <;> first | rfl | exact absurd rfl h

/-- Digit registers are equal when every position holds the same. -/
theorem digits_ext {d e : Digits} (h : ∀ p, d.get p = e.get p) : d = e := by
  cases d
  cases e
  have h1 := h .nx1
  have h2 := h .nx2
  have h3 := h .nx3
  have h4 := h .nx4
  have h5 := h .nx5
  have h6 := h .nx6
  simp only [Digits.get] at h1 h2 h3 h4 h5 h6
  subst h1 h2 h3 h4 h5 h6
  rfl

/-! ### The bus -/

/-- Everything that sending a word changes. -/
theorem sendWord_eq (w : DisplayWord) (s : State) :
    sendWord w s = { s with
      out := s.out ++ [.byte (byteOf w 3), .byte (byteOf w 2), .byte (byteOf w 1), .byte (byteOf w 0)]
      rx := (sendWord w s).rx } := by
  simp [sendWord, emit]

/-- Hearing two lists of events one after the other. -/
theorem listen_append (sense : LatchSense) (l : Bool) (es fs : List OutEvent) (r : Receiver) :
    Receiver.listen sense l (es ++ fs) r =
      Receiver.listen sense (es.foldl levelAfter l) fs (Receiver.listen sense l es r) := by
  induction es generalizing l r with
  | nil => rfl
  | cons e es ih => simp [Receiver.listen, ih]

/-! ### The sequencer -/

/-- A row of R160 exists for the phases 1 to 12 only. -/
theorem rowAction_isSome_iff (n : Nat) (s : State) : (rowAction n s).isSome = true ↔ 1 ≤ n ∧ n ≤ 12 := by
  unfold rowAction
  split <;> simp_all
  omega

/-- What no row of R160 touches. -/
theorem rowAction_frame {n : Nat} {s t : State} (h : rowAction n s = some t) :
    t.d = s.d ∧ t.dots = s.dots ∧ t.err = s.err ∧ t.cause = s.cause ∧ t.ph = s.ph ∧ t.bc = s.bc ∧ t.sdo = s.sdo ∧
      t.sck = s.sck ∧ t.rst = s.rst ∧ t.pending = s.pending ∧ t.draws = s.draws := by
  unfold rowAction at h
  split at h <;> first | (cases h; simp) | cases h

/-- Everything the sequencer's step can do (R164). -/
theorem sequencerStep_cases {s t : State} (h : sequencerStep s = .next t) :
    ∃ u, rowAction s.ph.toNat (endResponse s) = some u ∧ t = advancePhase u := by
  unfold sequencerStep at h
  split at h
  · exact ⟨_, ‹_›, by cases h; rfl⟩
  · cases h

/-- Everything the host's step can do (R162). -/
theorem hostStep_cases {run : CommandWord → State → Answer} {s t : State} (h : hostStep run s = .next t) :
    (s.pending = [] ∧ t = idleStep s) ∨ ∃ w rest, s.pending = w :: rest ∧ run w (takeCommand rest s) = .next t := by
  unfold hostStep at h
  split at h
  · exact .inl ⟨‹_›, by cases h; rfl⟩
  · exact .inr ⟨_, _, ‹_›, h⟩

/-- Everything a step can do, at either level (R166). -/
theorem stepWith_cases {run : CommandWord → State → Answer} {s t : State} (h : stepWith run s = .next t) :
    (s.rst = true ∧ t = resetStep s) ∨ (s.rst = false ∧ s.ph = 0 ∧ hostStep run s = .next t) ∨
      (s.rst = false ∧ s.ph ≠ 0 ∧ sequencerStep s = .next t) := by
  unfold stepWith at h
  split at h
  · exact .inl ⟨‹_›, by cases h; rfl⟩
  · split at h
    · exact .inr (.inl ⟨by simp_all, ‹_›, h⟩)
    · exact .inr (.inr ⟨by simp_all, ‹_›, h⟩)

/-- A ready block with a word presented takes the word (R161, R162). -/
theorem stepWith_of_ready (run : CommandWord → State → Answer) {s : State} {w : CommandWord} {rest : List CommandWord}
    (hr : s.Ready) (hp : s.pending = w :: rest) : stepWith run s = run w (takeCommand rest s) := by
  simp [stepWith, hostStep, hr.1, hr.2, hp]

/-- Out of reset and out of phase 0, the step is the sequencer's (R164). -/
theorem stepWith_of_busy (run : CommandWord → State → Answer) {s : State} (hr : s.rst = false) (hp : s.ph ≠ 0) :
    stepWith run s = sequencerStep s := by
  rw [stepWith, if_neg (by simp [hr]), if_neg hp]

/-- Everything `SETDIGIT` can do (R110). -/
theorem execSetdigit_cases {p v : Nat} {s t : State} (h : execSetdigit p v s = .next t) :
    (positionOf p = none ∧ t = reject .badPosition s) ∨
      (∃ q, positionOf p = some q ∧ digitOf v = none ∧ t = reject .badValue s) ∨
      ∃ q x, positionOf p = some q ∧ digitOf v = some x ∧ t = respond .ok (writeDigit q x s) := by
  unfold execSetdigit at h
  split at h
  · exact .inl ⟨‹_›, by cases h; rfl⟩
  · split at h
    · exact .inr (.inl ⟨_, ‹_›, ‹_›, by cases h; rfl⟩)
    · exact .inr (.inr ⟨_, _, ‹_›, ‹_›, by cases h; rfl⟩)

/-- Everything the command level can do with a word (R94, R162). -/
theorem runWord_cases {w : CommandWord} {s t : State} (h : runWord w s = .next t) :
    (∃ i, decode w = .command i ∧ exec i s = .next t) ∨ (∃ why, decode w = .illegal why ∧ t = reject .badCommand s) := by
  unfold runWord at h
  split at h
  · exact .inl ⟨_, ‹_›, h⟩
  · exact .inr ⟨_, ‹_›, by cases h; rfl⟩

/-- Everything the micro-step level can do with a word (R162). -/
theorem acceptWord_cases {w : CommandWord} {s t : State} (h : acceptWord w s = .next t) :
    (∃ i, decode w = .command i ∧ i ≠ .render ∧ exec i s = .next t) ∨
      (decode w = .command .render ∧ t = startRender s) ∨
      (∃ why, decode w = .illegal why ∧ t = reject .badCommand s) := by
  unfold acceptWord at h
  split at h
  · next i hd =>
    cases i with
    | setdigit p v => exact .inl ⟨_, hd, by simp, h⟩
    | setdots e => exact .inl ⟨_, hd, by simp, h⟩
    | render => exact .inr (.inl ⟨hd, by cases h; rfl⟩)
  · exact .inr (.inr ⟨_, ‹_›, by cases h; rfl⟩)

/-! ### The bit level -/

@[simp] theorem lineActions_nil (s : State) : lineActions [] s = s := rfl

@[simp] theorem lineActions_cons (a : LineAction) (as : List LineAction) (s : State) :
    lineActions (a :: as) s = lineActions as (lineAction a s) := rfl

/-- Carrying out two lists of line actions one after the other. -/
@[simp] theorem lineActions_append (as bs : List LineAction) (s : State) :
    lineActions (as ++ bs) s = lineActions bs (lineActions as s) := by
  simp [lineActions]

/-- The levels seen during two lists of line actions. -/
theorem lineLevels_append (as bs : List LineAction) (s : State) :
    lineLevels (as ++ bs) s = lineLevels as s ++ lineLevels bs (lineActions as s) := by
  induction as generalizing s with
  | nil => rfl
  | cons a as ih => simp [lineLevels, ih]

/-- Watching two lists of levels one after the other. -/
theorem watch_append (sense : LatchSense) (b : Lines) (ls ms : List Lines) (r : Receiver) :
    Receiver.watch sense b (ls ++ ms) r =
      Receiver.watch sense (ls.getLastD b) ms (Receiver.watch sense b ls r) := by
  induction ls generalizing b r with
  | nil => rfl
  | cons l ls ih =>
    simp only [List.cons_append, Receiver.watch, ih]
    cases ls <;> rfl

/-- While the line is low the receiver's latch holds (R175). -/
@[simp] theorem follow_low (sense : LatchSense) (r : Receiver) : r.follow sense false = r := by
  simp [Receiver.follow]

/-! ### Runs -/

/-- Two runs one after the other. -/
theorem runWith_add (f : State → Answer) (m n : Nat) (s : State) :
    runWith f (m + n) s = match runWith f m s with
      | .next t => runWith f n t
      | .fault r => .fault r
      | .refused r => .refused r := by
  induction m generalizing s with
  | zero => simp [runWith]
  | succ m ih =>
    rw [Nat.add_right_comm]
    simp only [runWith]
    cases f s <;> simp [ih]

/-- A property that every step keeps holds at the end of every run. -/
theorem runWith_keeps {f : State → Answer} {P : State → Prop} (hf : ∀ s t, P s → f s = .next t → P t) :
    ∀ (n : Nat) (s t : State), P s → runWith f n s = .next t → P t := by
  intro n
  induction n with
  | zero => intro s t hs h; cases h; exact hs
  | succ n ih =>
    intro s t hs h
    simp only [runWith] at h
    split at h
    · exact ih _ _ (hf _ _ hs ‹_›) h
    · cases h
    · cases h

end Sys2Proof.Machine
end

