-- ==== Sys2Proof/Laws/PerInstr.lean ====
section
/-! SUPPORT. Statements made per instruction: the word of a command fits its row of the opcode table
(spec/30_encoding.md R91). -/
namespace Sys2Proof.Laws

/-- The `match` and `mask` of a command's row (R91). -/
def rowOf : Instr → CommandWord × CommandWord
  | .setdigit _ _ => (0x1000, 0xF000)
  | .setdots _ => (0x2000, 0xFFFE)
  | .render => (0x3000, 0xFFFF)

/-- The encoded word has its row's fixed bits. -/
def EncodingFitsRow.Statement (i : Instr) : Prop := encode i &&& (rowOf i).2 = (rowOf i).1

theorem EncodingFitsRow.setdigit (p v : Nat) : EncodingFitsRow.Statement (.setdigit p v) := by
  unfold EncodingFitsRow.Statement
  simp only [encode, rowOf]
  generalize BitVec.ofNat 4 p = a
  generalize BitVec.ofNat 8 v = b
  apply BitVec.eq_of_getLsbD_eq
  intro i hi
  simp only [BitVec.getLsbD_and, BitVec.getLsbD_append]
  interval_cases i <;> simp

theorem EncodingFitsRow.setdots (e : Bool) : EncodingFitsRow.Statement (.setdots e) := by
  cases e <;> rfl

theorem EncodingFitsRow.render : EncodingFitsRow.Statement .render := rfl

end Sys2Proof.Laws
end

