-- ==== Sys2Proof/Tests/Slice0.lean ====
section
/-! SUPPORT. The model's own tests. Expected words, frames and receiver contents are those of spec/95_test_vectors.md (the
section is named at each group); the rest are worked out by hand from the rule named. The last part shows, for each
statement with hypotheses, a state and operands that meet them. -/
namespace Sys2Proof.Tests

open Sys2Proof Sys2Proof.Machine

/-! ### Helpers -/

/-- D = (1,2,3,4,5,6), dots on, latch high, and the receiver of section 2.9. -/
def demo : State :=
  { State.reset with
    d := { nx1 := 1, nx2 := 2, nx3 := 3, nx4 := 4, nx5 := 5, nx6 := 6 }
    dots := true
    latch := true
    rx := { sr := 0xDEADBEEF01234567, q := 0x1111111111111111 } }

/-- `demo` with words the host has yet to issue. -/
def presenting (ws : List CommandWord) : State := { demo with pending := ws }

/-- The block of `demo` after one render, the receiver driving its frame, with the reset input at `r`. -/
def shownOnce (r : Bool) : State :=
  { demo with
    rst := r
    wa := wordA demo.d demo.dots
    wb := wordB demo.d demo.dots
    out := renderEvents demo.d demo.dots
    rx := { sr := frameOf (wordA demo.d demo.dots) (wordB demo.d demo.dots),
            q := frameOf (wordA demo.d demo.dots) (wordB demo.d demo.dots) } }

/-- A field of the next state, if there is one. -/
def after {α : Type} (f : State → α) : Answer → Option α
  | .next t => some (f t)
  | .fault _ => none
  | .refused _ => none

/-! ### WellFormed: each check refuses an ill-formed command (R97) -/

theorem test_wellFormed_refuses_position : (Instr.setdigit 16 0).wellFormed = false := by decide
theorem test_wellFormed_refuses_value : (Instr.setdigit 1 256).wellFormed = false := by decide
theorem test_wellFormed_accepts_widest : (Instr.setdigit 15 255).wellFormed = true := by decide

/-! ### Decoding: words written out bit by bit from R91 (section 2.7) -/

theorem test_decode_setdigit : decode 0b0001001100000100#16 = .command (.setdigit 3 4) := by decide
theorem test_decode_setdigit_widest : decode 0b0001111111111111#16 = .command (.setdigit 15 255) := by decide
theorem test_decode_setdots_on : decode 0b0010000000000001#16 = .command (.setdots true) := by decide
theorem test_decode_setdots_off : decode 0b0010000000000000#16 = .command (.setdots false) := by decide
theorem test_decode_render : decode 0b0011000000000000#16 = .command .render := by decide
theorem test_decode_illegal_words :
    decode 0x0000#16 = .illegal .unknownOp ∧ decode 0xFFFF#16 = .illegal .unknownOp ∧
    decode 0x2101#16 = .illegal .setdotsReserved ∧ decode 0x2080#16 = .illegal .setdotsReserved ∧
    decode 0x3001#16 = .illegal .renderReserved ∧ decode 0x3100#16 = .illegal .renderReserved := by decide
theorem test_encode_words :
    encode (.setdigit 9 200) = 0x19C8#16 ∧ encode (.setdots true) = 0x2001#16 ∧ encode .render = 0x3000#16 := by decide
theorem test_tableWord : decodeTableWord 16 0x160A = some (.setdigit 6 10) ∧ decodeTableWord 16 0x4000 = none := by decide

/-! ### The mapper and the packer (sections 2.1, 2.2) -/

theorem test_sym_corners : sym 0 = 0x001#10 ∧ sym 9 = 0x200#10 ∧ sym 10 = 0x000#10 := by decide
theorem test_pack_vectors :
    pack 0x001 0x002 0x004 true = 0xC0400801#32 ∧ pack 0x000 0x000 0x200 false = 0x20000000#32 ∧
    pack 0x3FF 0x3FF 0x3FF true = 0xFFFFFFFF#32 := by decide

/-! ### The commands (sections 2.4, 2.6) -/

theorem test_setdigit_stores : after (·.d.nx3) (exec (.setdigit 3 10) demo) = some 10 := by decide
theorem test_setdigit_rejects :
    after (fun t => (t.d, t.err, t.cause)) (exec (.setdigit 3 16) demo) = some (demo.d, true, 1#2) ∧
    after (fun t => (t.d, t.err, t.cause)) (exec (.setdigit 0 99) demo) = some (demo.d, true, 2#2) := by decide
theorem test_setdots : after (fun t => (t.dots, t.resp)) (exec (.setdots false) demo) = some (false, some .ok) := by decide
theorem test_render_events : after (·.out) (exec .render demo) =
    some [.latchLow, .byte 0xC1, .byte 0x00, .byte 0x80, .byte 0x40, .byte 0xC0, .byte 0x20, .byte 0x10, .byte 0x08,
      .latchHigh] := by decide
theorem test_render_words : after (fun t => (t.wa, t.wb, t.latch)) (exec .render demo) =
    some (0xC1008040#32, 0xC0201008#32, true) := by decide

/-! ### The step, the sequencer and the serialiser (sections 2.5, 2.7, 2.8) -/

theorem test_step_rejects_illegal : after (fun t => (t.cause, t.pending)) (step (presenting [0x2002, 0x3000])) =
    some (3#2, [0x3000#16]) := by decide
theorem test_step_after_reset :
    after (fun t => (t.d.nx1, t.pending)) (step (State.reset.withFetchWord 16 0x1101)) = some (1#4, []) := by decide
theorem test_micro_accepts_render : after (fun t => (t.ph, t.latch, t.out)) (microStep (presenting [0x3000])) =
    some (1#4, true, []) := by decide
theorem test_micro_holds_setdigit :
    after (fun t => (t.ph, t.pending, t.d.nx1)) (microStep { presenting [0x1109] with ph := 2 }) =
      some (3#4, [0x1109#16], 1#4) := by decide
theorem test_bits_of_byte : byteBits 0xC1 = [true, true, false, false, false, false, false, true] := by decide
theorem test_one_round : (fun t : State => (t.out, t.shb, t.bc, t.sdo, t.sck)) (lineActions bitRound (loadByte 0xC1 demo)) =
    ([.bit true], 0x82#8, 1#4, true, false) := by decide
theorem test_status : demo.status = 0b00110000#8 := by decide

/-! ### The receiver (section 2.9) -/

theorem test_receiver_byte : (demo.rx.onEvent .risingEdge false (.byte 0xC1)).sr = 0xADBEEF01234567C1#64 := by decide
theorem test_receiver_render : after (fun t => t.rx.q) (exec .render demo) = some 0xC1008040C0201008#64 := by
  decide +kernel

/-! ### The assembler (section 2.7, programs 1 and 3) -/

theorem test_assemble_out_of_range : assemble "SETDIGIT 9, 200" = some [0x19C8#16] := by decide
theorem test_assemble_names : assemble "setdigit NX6, BLANK ; the last one" = some [0x160A#16] := by decide
theorem test_assemble_hex_and_dots : assemble "SETDIGIT 1, 0x0B\nSETDOTS ON" = some [0x110B#16, 0x2001#16] := by decide
theorem test_assemble_does_not_fit : assemble "SETDIGIT 16, 1" = none ∧ assemble "SETDIGIT 1, 256" = none := by decide

/-! ### Witnesses: the hypotheses of the statements can be met -/

theorem demo_ready : demo.Ready := ⟨rfl, rfl⟩
theorem presenting_ready (ws : List CommandWord) : (presenting ws).Ready := ⟨rfl, rfl⟩

theorem witness_DecodeEncodeAgree : (Instr.setdigit 15 255).WellFormed := by decide

theorem witness_CommandWordsAreUnique : decode 0x1F0B#16 = .command (.setdigit 15 11) := by decide

theorem witness_WordsMatchTheirRows :
    decode 0x1000#16 = .command (.setdigit 0 0) ∧ decode 0x1FFF#16 = .command (.setdigit 15 255) ∧
    decode 0x2001#16 = .command (.setdots true) := by decide

/-- Every clause at the two ends of its range, `Ready` and `pending` being those of `presenting [w]`. -/
theorem witness_IllFormedWordsAreRejected :
    (∀ w, (presenting [w]).Ready ∧ (presenting [w]).pending = [w]) ∧
    (0x0000 / 4096 = 0 ∧ 4 ≤ 0x4000 / 4096 ∧ 4 ≤ 0xFFFF / 4096) ∧
    (0x2002 / 4096 = 2 ∧ 2 ≤ 0x2002 % 256 ∧ 0x2100 / 4096 = 2 ∧ 0x2100 / 256 % 16 ≠ 0) ∧
    (0x3001 / 4096 = 3 ∧ 0x3001 % 256 ≠ 0 ∧ 0x3F00 / 4096 = 3 ∧ 0x3F00 / 256 % 16 ≠ 0) ∧
    (0x1005 / 4096 = 1 ∧ 0x1005 / 256 % 16 = 0 ∧ 0x17FF / 4096 = 1 ∧ 7 ≤ 0x17FF / 256 % 16) ∧
    (0x110B / 4096 = 1 ∧ 0x110B / 256 % 16 = 1 ∧ 11 ≤ 0x110B % 256 ∧ 0x16FF / 256 % 16 = 6 ∧ 11 ≤ 0x16FF % 256) :=
  ⟨fun _ => ⟨presenting_ready _, rfl⟩, by decide⟩

theorem witness_AssembledWordsDecodeToTheirExpansion :
    (∀ n, Source.blankDigit 1 ≠ .word n) ∧ assembleSource (.blankDigit 1) = some [0x110A#16] ∧ 65535 < 65536 :=
  ⟨fun _ => by simp, by decide, by decide⟩

theorem witness_ShowDisplaysItsDigits :
    (presenting [0x1100, 0x120A, 0x1301, 0x1409, 0x1505, 0x1608, 0x3000]).Ready ∧
    assembleSource (.show 0 10 1 9 5 8) = some [0x1100, 0x120A, 0x1301, 0x1409, 0x1505, 0x1608, 0x3000] :=
  ⟨presenting_ready _, by decide⟩

theorem witness_StepRunsTheDecodedCommand :
    (presenting [0x3000]).Ready ∧ (presenting [0x3000]).pending = [0x3000] ∧ decode 0x3000 = .command .render :=
  ⟨presenting_ready _, rfl, by decide⟩

theorem witness_IdleBlockWaits : demo.Ready ∧ demo.pending = [] := ⟨demo_ready, rfl⟩

theorem witness_StepsStopOnlyInIllegalPhases :
    ({ demo with ph := 12 } : State).ph.toNat ≤ 12 ∧
    13 ≤ ({ demo with ph := 13 } : State).ph.toNat ∧ ({ demo with ph := 13 } : State).rst = false := by decide

theorem witness_SetdigitStoresTheDigitValue : (0 : Nat) ≤ 10 ∧ (10 : Nat) ≤ 10 := by decide

theorem witness_SetdigitRejectsABadPosition : (0 < 1 ∨ 6 < 0) ∧ (7 < 1 ∨ 6 < 7) := by decide

theorem witness_SetdigitRejectsABadValue : 10 < 11 ∧ 10 < 255 := by decide

theorem demo_legal : demo.d.Legal := by
  intro p
  cases p <;> decide

theorem witness_SetdigitLaws :
    (0 : Nat) ≤ 10 ∧ (10 : Nat) ≤ 10 ∧ Position.nx1 ≠ .nx6 ∧ demo.d.Legal ∧
    (∃ u, exec (.setdigit Position.nx6.number 10) demo = .next u) ∧ (∃ u, exec (.setdots true) demo = .next u) ∧
    ∃ u, exec (.setdigit 7 11) demo = .next u :=
  ⟨by decide, by decide, by decide, demo_legal, ⟨_, rfl⟩, ⟨_, rfl⟩, ⟨_, rfl⟩⟩

theorem witness_RenderedWordsCarryTheSymbols : ∃ t, exec .render demo = .next t := ⟨_, rfl⟩

theorem witness_SymbolCodeTable : (0#4).toNat ≤ 9 ∧ (9#4).toNat ≤ 9 := by decide

theorem witness_SymbolCodesAreOneHotAndInjective :
    (9#4).toNat ≤ 9 ∧ (10#4).toNat ≤ 10 ∧ sym 10#4 = sym 10#4 := by decide

theorem witness_PackingLaws : demo.d.Legal ∧ pack 1 2 4 true = pack 1 2 4 true := ⟨demo_legal, rfl⟩

theorem witness_EachPositionHasItsOwnLane :
    (9 < fieldOffset .nx2 ∨ fieldOffset .nx2 + 10 ≤ 9) ∧ (20 < fieldOffset .nx2 ∨ fieldOffset .nx2 + 10 ≤ 20) ∧
    (29 ≠ 63 ∧ 29 ≠ 62 ∧ 29 ≠ 31 ∧ 29 ≠ 30) := by decide

theorem witness_RenderedEventsDetermineTheDisplay :
    (∃ t, exec .render demo = .next t) ∧ demo.d.Legal ∧ renderEvents demo.d true = renderEvents demo.d true :=
  ⟨⟨_, rfl⟩, demo_legal, rfl⟩

theorem witness_LatchPulsesCountRenders : (presenting [0x3000, 0x2001, 0x3000]).Ready := presenting_ready _

theorem witness_UpdatesAloneLeaveTheDisplay :
    (presenting [0x1101, 0x2001, 0x0000]).Ready ∧ ∀ w ∈ (presenting [0x1101, 0x2001, 0x0000]).pending, rendersWord w = false := by
  refine ⟨presenting_ready _, fun w h => ?_⟩
  rw [show (presenting [0x1101, 0x2001, 0x0000]).pending = [0x1101, 0x2001, 0x0000] from rfl] at h
  simp only [List.mem_cons, List.not_mem_nil, or_false] at h
  rcases h with rfl | rfl | rfl <;> decide

theorem witness_OnlyRejectionsWriteErrAndCause :
    (presenting [0x0000]).rst = false ∧ (∃ t, step (presenting [0x0000]) = .next t) ∧
    (∃ t, microStep (presenting [0x3000]) = .next t) ∧
    (shownOnce true).rst = true ∧ ∃ t, step (shownOnce true) = .next t :=
  ⟨rfl, ⟨_, rfl⟩, ⟨_, rfl⟩, rfl, ⟨_, rfl⟩⟩

theorem witness_EveryCommandIsAnswered :
    (presenting [0x1101]).Ready ∧ acceptedWord 0x1101 = true ∧ acceptedWord 0x1701 = false ∧
    decode 0x3000 = .command .render :=
  ⟨presenting_ready _, by decide, by decide, by decide⟩

theorem witness_NoErrorExactlyWhenAllResponsesOk :
    demo.rst = false ∧ demo.NoRejection ∧ ∃ t, run 1 demo = .next t := ⟨rfl, rfl, ⟨_, rfl⟩⟩

theorem witness_RejectionRecordIsNeverRead :
    SameButRejection demo (reject .badValue demo) ∧ (∃ t, step demo = .next t) ∧ ∃ t, microStep demo = .next t :=
  ⟨by apply State.ext <;> rfl, ⟨_, rfl⟩, ⟨_, rfl⟩⟩

theorem witness_RejectedWordsLeaveNoOtherTrace : (presenting [0x1101, 0x1701, 0x3000]).Ready := presenting_ready _

/-- Each row's phase, from 1 to 12. -/
theorem witness_SequencerRows :
    ({ demo with ph := 1 } : State).rst = false ∧ ({ demo with ph := 1 } : State).ph = 1 ∧
    ({ demo with ph := 12 } : State).ph = 12 := by decide

theorem witness_AcceptingACommand :
    (presenting [0x1101]).Ready ∧ decode 0x1101 = .command (.setdigit 1 1) ∧ decode 0x2001 = .command (.setdots true) ∧
    decode 0x0000 = .illegal .unknownOp ∧ decode 0x3000 = .command .render :=
  ⟨presenting_ready _, by decide⟩

theorem witness_BusyBlockHoldsCommands :
    ({ demo with ph := 1 } : State).rst = false ∧ 1 ≤ ({ demo with ph := 1 } : State).ph.toNat ∧
    ({ demo with ph := 12 } : State).ph.toNat ≤ 12 := by decide

theorem witness_SequencerReadsNoInput :
    ({ demo with ph := 3 } : State).rst = false ∧ ({ demo with ph := 3 } : State).ph ≠ 0 ∧
    ({ demo with ph := 3 } : State).ph ≠ 2 ∧ ({ demo with ph := 3 } : State).ph ≠ 7 ∧
    ∃ t, microStep { demo with ph := 3 } = .next t :=
  ⟨rfl, by decide, by decide, by decide, ⟨_, rfl⟩⟩

theorem witness_RenderTakesTwelveSteps :
    ({ demo with ph := 1 } : State).rst = false ∧ ({ demo with ph := 1 } : State).ph = 1 ∧ 11 < 12 := by decide

theorem witness_MicroRenderRefinesRender :
    (presenting [0x3000, 0x1101]).Ready ∧ (presenting [0x3000, 0x1101]).pending = 0x3000#16 :: [0x1101] :=
  ⟨presenting_ready _, rfl⟩

theorem witness_MicroRunsRefineCommandRuns : (presenting [0x3000, 0x1101, 0x3000]).Ready := presenting_ready _

theorem witness_BitRenderRefinesRender : demo.ph = 0 := by decide

theorem witness_LineDiscipline : demo.sck = false ∧ 0 < renderLineActions.length := by decide +kernel

theorem witness_SampledLinesCarryTheEvents : demo.sck = false := by decide

theorem witness_LatchSensesAgree :
    OutEvent.latchHigh ∈ (([(1, 2), (3, 4)] : List (DisplayWord × DisplayWord)).flatMap fun x => frameEvents x.1 x.2).take 10 := by
  decide

theorem witness_RenderDefinesTheDisplay : (∃ t, exec .render demo = .next t) ∧ demo.d.Legal := ⟨⟨_, rfl⟩, demo_legal⟩

/-- The block of `demo` in the last phase of its first render, as the sequencer leaves it. -/
def lastPhase : State :=
  { demo with
    ph := 12
    latch := false
    wa := wordA demo.d demo.dots
    wb := wordB demo.d demo.dots
    out := (renderEvents demo.d demo.dots).take 9
    rx := Receiver.listen .risingEdge false ((renderEvents demo.d demo.dots).take 9) demo.rx }

theorem lastPhase_inv : lastPhase.Inv :=
  ⟨⟨demo_legal, by decide, by decide⟩, [],
    { legal := fun _ h => by cases h
      out := rfl
      builtA := fun _ => rfl
      builtB := fun _ => rfl
      latchLow := fun _ => rfl
      latchHigh := fun h => absurd h (by decide)
      latchReset := fun h => absurd h (by decide)
      clock := rfl
      follows := fun _ h => by cases h
      driven := fun _ h => by cases h
      shifted := ⟨demo.rx, rfl, fun _ h => by cases h⟩ }⟩

theorem shownOnce_inv (r : Bool) : (shownOnce r).Inv :=
  ⟨⟨demo_legal, Nat.zero_le _, by simp [shownOnce, demo, State.reset]⟩, [(demo.d, demo.dots)],
    { legal := fun x h => by simp at h; rw [h]; exact demo_legal
      out := by simp [shownOnce, partialEvents, eventsBefore, demo, State.reset]
      builtA := fun _ => rfl
      builtB := fun _ => rfl
      latchLow := fun h => absurd h (by simp [shownOnce, demo, State.reset])
      latchHigh := fun _ _ => rfl
      latchReset := fun _ h => by cases h
      clock := rfl
      follows := fun _ _ => rfl
      driven := fun x h => by simp at h; rw [← h]; rfl
      shifted := ⟨(shownOnce r).rx, rfl, fun x h => by simp at h; rw [← h]; rfl⟩ }⟩

theorem witness_DisplayChangesOnlyAtLatchHigh :
    lastPhase.Inv ∧ lastPhase.rst = false ∧ lastPhase.ph = 12 ∧ ∃ t, microStep lastPhase = .next t :=
  ⟨lastPhase_inv, rfl, rfl, ⟨_, rfl⟩⟩

/-- `demo` after the first step of a first render: the latch line has been lowered, word A is next. -/
def firstPhase : State := { demo with ph := 2, latch := false, out := [.latchLow] }

theorem firstPhase_inv : firstPhase.Inv :=
  ⟨⟨demo_legal, by decide, by decide⟩, [],
    { legal := fun _ h => by cases h
      out := rfl
      builtA := fun h => absurd h (by decide)
      builtB := fun h => absurd h (by decide)
      latchLow := fun _ => rfl
      latchHigh := fun h => absurd h (by decide)
      latchReset := fun h => absurd h (by decide)
      clock := rfl
      follows := fun _ h => by cases h
      driven := fun _ h => by cases h
      shifted := ⟨demo.rx, rfl, fun _ h => by cases h⟩ }⟩

theorem witness_DisplayChangesOnlyAtLatchHigh_early :
    firstPhase.Inv ∧ firstPhase.rst = false ∧ firstPhase.ph ≠ 0 ∧ firstPhase.ph ≠ 12 ∧
    ∃ t, microStep firstPhase = .next t :=
  ⟨firstPhase_inv, rfl, by decide, by decide, ⟨_, rfl⟩⟩

theorem witness_AtMostOneCathodePerPosition :
    (shownOnce false).Inv ∧ .latchHigh ∈ (shownOnce false).out ∧ cathodeOn (shownOnce false).rx.q .nx4 4 = true :=
  ⟨shownOnce_inv false, by decide, by decide⟩

theorem witness_ResetStep : (shownOnce true).rst = true ∧ (shownOnce true).Inv ∧ (shownOnce true).ph = 0 :=
  ⟨rfl, shownOnce_inv true, rfl⟩

theorem witness_StepKeepsTheInvariant : (shownOnce false).Inv ∧ ∃ t, step (shownOnce false) = .next t :=
  ⟨shownOnce_inv false, ⟨_, rfl⟩⟩

theorem witness_MicroStepKeepsTheInvariant : lastPhase.Inv ∧ ∃ t, microStep lastPhase = .next t :=
  ⟨lastPhase_inv, ⟨_, rfl⟩⟩

end Sys2Proof.Tests
end

section
/-! PROOFS of the scope (spec/00_scope.md R7). A program run at the micro-step level refines its run at the command level: the
sequencer's twelve rows compose to the command-level render (R170), the command level ignores `SHB` (R31), and so each word
takes both levels to the same state, `SHB` aside. -/
namespace Sys2Proof.Machine

/-! ### What a command always does, and that it ignores `SHB` -/

/-- No command stops (R90): every arm answers a next state. -/
theorem exec_answers (i : Instr) (s : State) : ∃ t, exec i s = .next t := by
  cases i with
  | setdigit p v =>
    simp only [exec, execSetdigit]
    cases positionOf p with
    | none => exact ⟨_, rfl⟩
    | some q => cases digitOf v <;> exact ⟨_, rfl⟩
  | setdots e => exact ⟨_, rfl⟩
  | render => exact ⟨_, rfl⟩

/-- Carrying out a command moves neither the phase nor the host's ports. -/
theorem exec_frame {i : Instr} {s t : State} (h : exec i s = .next t) :
    t.rst = s.rst ∧ t.ph = s.ph ∧ t.pending = s.pending := by
  cases i with
  | setdigit p v =>
    obtain ⟨-, rfl⟩ | ⟨q, -, -, rfl⟩ | ⟨q, x, -, -, rfl⟩ := execSetdigit_cases h <;> simp
  | setdots e => cases h; simp
  | render => cases h; simp

/-- At the command level `SHB` is neither read nor written (R31). -/
theorem exec_ignores_shb {i : Instr} {s t : State} (h : exec i s = .next t) (b : Byte) :
    exec i { s with shb := b } = .next { t with shb := b } := by
  cases i with
  | setdigit p v =>
    obtain ⟨hp, rfl⟩ | ⟨q, hp, hv, rfl⟩ | ⟨q, x, hp, hv, rfl⟩ := execSetdigit_cases h
    · simp only [exec, execSetdigit, hp]; rfl
    · simp only [exec, execSetdigit, hp, hv]; rfl
    · simp only [exec, execSetdigit, hp, hv]; rfl
  | setdots e => cases h; rfl
  | render => cases h; rfl

theorem runWord_of_command {w : CommandWord} {i : Instr} (hd : decode w = .command i) (s : State) :
    runWord w s = exec i s := by
  simp [runWord, hd]

theorem runWord_of_illegal {w : CommandWord} {why : Illegal} (hd : decode w = .illegal why) (s : State) :
    runWord w s = .next (reject .badCommand s) := by
  simp [runWord, hd]

/-- Every word is answered, commands and illegal words alike (R94, R96). -/
theorem runWord_answers (w : CommandWord) (s : State) : ∃ t, runWord w s = .next t := by
  cases hd : decode w with
  | command i => exact runWord_of_command hd s ▸ exec_answers i s
  | illegal why => exact ⟨_, runWord_of_illegal hd s⟩

theorem runWord_frame {w : CommandWord} {s t : State} (h : runWord w s = .next t) :
    t.rst = s.rst ∧ t.ph = s.ph ∧ t.pending = s.pending := by
  obtain ⟨i, -, hi⟩ | ⟨why, -, rfl⟩ := runWord_cases h
  · exact exec_frame hi
  · simp

theorem runWord_ignores_shb {w : CommandWord} {s t : State} (h : runWord w s = .next t) (b : Byte) :
    runWord w { s with shb := b } = .next { t with shb := b } := by
  obtain ⟨i, hd, hi⟩ | ⟨why, hd, rfl⟩ := runWord_cases h
  · rw [runWord_of_command hd]
    exact exec_ignores_shb hi b
  · exact runWord_of_illegal hd _

/-! ### One command-level step of a ready block with a word presented -/

section
variable {s : State} {w : CommandWord} {rest : List CommandWord}

/-- A ready block takes the word and is ready again in the next state (R162). -/
theorem step_of_ready (hr : s.Ready) (hp : s.pending = w :: rest) :
    ∃ t, step s = .next t ∧ t.Ready ∧ t.pending = rest := by
  obtain ⟨t, ht⟩ := runWord_answers w (takeCommand rest s)
  obtain ⟨hrst, hph, hpend⟩ := runWord_frame ht
  exact ⟨t, (stepWith_of_ready runWord hr hp).trans ht, ⟨hrst.trans hr.1, hph.trans hr.2⟩, hpend⟩

/-- The step of a ready block ignores `SHB` (R31). -/
theorem step_ignores_shb (hr : s.Ready) (hp : s.pending = w :: rest) {t : State} (h : step s = .next t) (b : Byte) :
    step { s with shb := b } = .next { t with shb := b } := by
  rw [step, stepWith_of_ready runWord hr hp] at h
  have hr' : ({ s with shb := b } : State).Ready := hr
  exact (stepWith_of_ready runWord hr' hp).trans (runWord_ignores_shb h b)

end

/-! ### Runs -/

/-- A run goes on from the state it has reached. -/
theorem runWith_add_of_next {f : State → Answer} {m : Nat} {s t : State} (h : runWith f m s = .next t) (n : Nat) :
    runWith f (m + n) s = runWith f n t := by
  rw [runWith_add, h]

/-- A run of one step is that step. -/
theorem runWith_one {f : State → Answer} {s t : State} (h : f s = .next t) : runWith f 1 s = .next t := by
  simp [runWith, h]

theorem microRun_add_of_next {m : Nat} {s t : State} (h : microRun m s = .next t) (n : Nat) :
    microRun (m + n) s = microRun n t :=
  runWith_add_of_next h n

/-! ### The sequencer carries out the render (R160, R170)

The rows of R160 fall into the three parts of the render. With the phase a numeral, each part is its rows evaluated one after
the other; the parts then compose because the render reads none of the registers that the sequencer keeps for itself. -/

/-- `s` with the registers that the sequencer writes beside the render's own: the phase, `SHB` and the response. -/
def withSequencer (p : BitVec 4) (b : Byte) (r : Option Response) (s : State) : State :=
  { s with ph := p, shb := b, resp := r }

section
variable (p q : BitVec 4) (b c : Byte) (r r' : Option Response) (s : State)

@[simp] theorem withSequencer_withSequencer :
    withSequencer p b r (withSequencer q c r' s) = withSequencer p b r s := rfl

@[simp] theorem renderOpen_withSequencer : renderOpen (withSequencer p b r s) = withSequencer p b r (renderOpen s) := rfl

@[simp] theorem renderMiddle_withSequencer :
    renderMiddle (withSequencer p b r s) = withSequencer p b r (renderMiddle s) := rfl

@[simp] theorem renderClose_withSequencer :
    renderClose (withSequencer p b r s) = withSequencer p b r (renderClose s) := rfl

@[simp] theorem withSequencer_d : (withSequencer p b r s).d = s.d := rfl
@[simp] theorem withSequencer_dots : (withSequencer p b r s).dots = s.dots := rfl
@[simp] theorem withSequencer_wb : (withSequencer p b r s).wb = s.wb := rfl
@[simp] theorem withSequencer_rst : (withSequencer p b r s).rst = s.rst := rfl
@[simp] theorem withSequencer_ph : (withSequencer p b r s).ph = p := rfl

theorem startRender_eq_withSequencer : startRender s = withSequencer 1 s.shb s.resp s := rfl

/-- The response completes the command, so that only the phase and `SHB` are the sequencer's own. -/
theorem withSequencer_of_response (x : Response) (h : s.ph = p) :
    withSequencer p b (some x) s = { respond x s with shb := b } := by
  subst h
  rfl

end

/-- Rows 1 and 2: the latch is lowered and word A is built (R130 steps 1 and 2). -/
theorem microRun_renderOpen {s : State} (hr : s.rst = false) (hp : s.ph = 1) :
    microRun 2 s = .next (withSequencer 3 s.shb none (renderOpen s)) := by
  cases s
  cases hr
  cases hp
  rfl

/-- Rows 3 to 7: word A is sent and word B is built (R130 steps 3 and 4). -/
theorem microRun_renderMiddle {s : State} (hr : s.rst = false) (hp : s.ph = 3) :
    microRun 5 s = .next (withSequencer 8 (byteOf s.wa 0) none (renderMiddle s)) := by
  cases s
  cases hr
  cases hp
  rfl

/-- Rows 8 to 12: word B is sent, the latch is raised and the command is answered (R130 steps 5 and 6, R162). -/
theorem microRun_renderClose {s : State} (hr : s.rst = false) (hp : s.ph = 8) :
    microRun 5 s = .next (withSequencer 0 (byteOf s.wb 0) (some .ok) (renderClose s)) := by
  cases s
  cases hr
  cases hp
  rfl

/-- From phase 1 the twelve rows are the render, with the phase back at 0 and `SHB` at the last byte sent (R165, R170). -/
theorem microRun_renderRows {s : State} (hr : s.rst = false) (hp : s.ph = 1) :
    microRun 12 s = .next (withSequencer 0 (byteOf (wordB s.d s.dots) 0) (some .ok)
      (renderClose (renderMiddle (renderOpen s)))) := by
  rw [microRun_add_of_next (m := 2) (n := 5 + 5) (microRun_renderOpen hr hp),
    microRun_add_of_next (microRun_renderMiddle (by simpa using hr) (by simp)),
    microRun_renderClose (by simpa using hr) (by simp)]
  simp

/-! ### One word at both levels (R162, R170) -/

section
variable {s t : State} {w : CommandWord} {rest : List CommandWord}

/-- Accepting a word that is no `RENDER` is the whole of it: the micro-step is the command level's step (R162). -/
theorem microStep_of_not_render (hr : s.Ready) (hp : s.pending = w :: rest) (hd : decode w ≠ .command .render) :
    microStep s = step s := by
  rw [microStep, step, stepWith_of_ready acceptWord hr hp, stepWith_of_ready runWord hr hp]
  cases hw : decode w with
  | command i =>
    cases i with
    | setdigit p v => simp [acceptWord, runWord, acceptCommand, hw]
    | setdots e => simp [acceptWord, runWord, acceptCommand, hw]
    | render => exact absurd hw hd
  | illegal why => simp [acceptWord, runWord, hw]

/-- Accepting `RENDER` only starts the sequencer (R162). -/
theorem microStep_of_render (hr : s.Ready) (hp : s.pending = w :: rest) (hd : decode w = .command .render) :
    microStep s = .next (startRender (takeCommand rest s)) := by
  rw [microStep, stepWith_of_ready acceptWord hr hp]
  simp [acceptWord, acceptCommand, hd]

/-- The accept step and the twelve rows give the command level's `RENDER`, with `SHB` the last byte of word B (R170). -/
theorem microRun_of_render (hr : s.Ready) (hp : s.pending = w :: rest) (hd : decode w = .command .render)
    (h : step s = .next t) : microRun 13 s = .next { t with shb := byteOf t.wb 0 } := by
  have ht : t = respond .ok (renderClose (renderMiddle (renderOpen (takeCommand rest s)))) := by
    rw [step, stepWith_of_ready runWord hr hp, runWord_of_command hd] at h
    cases h
    rfl
  have haccept : microRun (1 + 12) s = microRun 12 (startRender (takeCommand rest s)) :=
    microRun_add_of_next (runWith_one (microStep_of_render hr hp hd)) 12
  rw [haccept, microRun_renderRows (by simpa using hr.1) (by simp), startRender_eq_withSequencer]
  simp [withSequencer_of_response, hr.2, ht]

/-- How many micro-steps a word takes: one, and twelve more for a `RENDER` (R162, R165). -/
def microStepsOf (w : CommandWord) : Nat := if rendersWord w then 13 else 1

/-- One word takes the micro-step level where it takes the command level, `SHB` aside (R170). -/
theorem microRun_of_word (hr : s.Ready) (hp : s.pending = w :: rest) (h : step s = .next t) :
    ∃ b, microRun (microStepsOf w) s = .next { t with shb := b } := by
  by_cases hd : decode w = .command .render
  · refine ⟨byteOf t.wb 0, ?_⟩
    simpa [microStepsOf, rendersWord, hd] using microRun_of_render hr hp hd h
  · have hone : microRun 1 s = .next t := runWith_one ((microStep_of_not_render hr hp hd).trans h)
    exact ⟨t.shb, by simpa [microStepsOf, rendersWord, hd] using hone⟩

end

/-! ### Whole programs -/

theorem microSteps_cons (w : CommandWord) (ws : List CommandWord) :
    (w :: ws).length + 12 * (w :: ws).countP rendersWord =
      microStepsOf w + (ws.length + 12 * ws.countP rendersWord) := by
  cases h : rendersWord w <;> simp [microStepsOf, h] <;> omega

/-- The simulation: the two levels start at states that agree but for `SHB`, and end at such states when the program does. -/
theorem microRun_simulates_run (ws : List CommandWord) :
    ∀ (s : State) (b : Byte), s.Ready → s.pending = ws →
      ∃ t c, run ws.length s = .next t ∧
        microRun (ws.length + 12 * ws.countP rendersWord) { s with shb := b } = .next { t with shb := c } ∧
        t.pending = [] ∧ t.Ready := by
  induction ws with
  | nil => exact fun s b hr hp => ⟨s, b, rfl, rfl, hp, hr⟩
  | cons w rest ih =>
    intro s b hr hp
    obtain ⟨s', hstep, hr', hp'⟩ := step_of_ready hr hp
    have hr_b : ({ s with shb := b } : State).Ready := hr
    obtain ⟨b', hword⟩ := microRun_of_word hr_b hp (step_ignores_shb hr hp hstep b)
    obtain ⟨t, c, hrun, hmicro, hend, hready⟩ := ih s' b' hr' hp'
    refine ⟨t, c, ?_, ?_, hend, hready⟩
    · rw [List.length_cons, Nat.add_comm]
      exact (runWith_add_of_next (runWith_one hstep) _).trans hrun
    · rw [microSteps_cons]
      exact (microRun_add_of_next hword _).trans hmicro

/-- Settles O42, by the simulation of the micro-step level by the command level, word by word. -/
theorem microRunsRefineCommandRuns : Obligations.MicroRunsRefineCommandRuns := by
  intro s hr
  obtain ⟨t, c, hrun, hmicro, hend, hready⟩ := microRun_simulates_run s.pending s s.shb hr rfl
  exact ⟨t, { t with shb := c }, hrun, hmicro, hend, hready, hready, rfl⟩

end Sys2Proof.Machine
end

section
/-! PROOFS of the state (spec/10_state.md): the invariant of the machine. At the micro-step level each step either leaves the
bus alone, starts or goes on with a render, completes it, or resets the block; the command level's `RENDER` is thirteen
micro-steps up to `SHB` (R170), which the invariant does not read, so what every micro-step keeps every step keeps. -/
namespace Sys2Proof.Machine

/-! ### The receiver's shift register (R175) -/

/-- What an event does to the shift register; neither the latch's sense nor the level of its line matters (R175). -/
def shiftIn (sr : Frame) : OutEvent → Frame
  | .latchLow => sr
  | .latchHigh => sr
  | .byte b => ((Receiver.mk sr 0).shiftByte b).sr
  | .bit x => ((Receiver.mk sr 0).shiftBit x).sr

@[simp] theorem follow_sr (sense : LatchSense) (l : Bool) (r : Receiver) : (r.follow sense l).sr = r.sr := by
  unfold Receiver.follow
  split <;> rfl

theorem onEvent_sr (sense : LatchSense) (l : Bool) (e : OutEvent) (r : Receiver) :
    (r.onEvent sense l e).sr = shiftIn r.sr e := by
  cases e with
  | latchLow => rfl
  | latchHigh => rfl
  | byte b => exact follow_sr sense l _
  | bit x => exact follow_sr sense l _

theorem listen_sr (sense : LatchSense) (l : Bool) (es : List OutEvent) (r : Receiver) :
    (Receiver.listen sense l es r).sr = es.foldl shiftIn r.sr := by
  induction es generalizing l r with
  | nil => rfl
  | cons e es ih => simp [Receiver.listen, ih, onEvent_sr]

/-- A receiver whose latch line is low keeps its outputs while bytes come in (R175). -/
theorem onEvent_byte_low_q (sense : LatchSense) (b : Byte) (r : Receiver) :
    (r.onEvent sense false (.byte b)).q = r.q := by
  simp [Receiver.onEvent, Receiver.shiftByte, byteBits, Receiver.shiftBit]

theorem shiftBit_sr_getLsbD (x : Bool) (r : Receiver) {i : Nat} (hi : i < 64) :
    (r.shiftBit x).sr.getLsbD i = if i = 0 then x else r.sr.getLsbD (i - 1) := by
  cases i with
  | zero => simp [Receiver.shiftBit]
  | succ i => simp [Receiver.shiftBit, hi, BitVec.getLsbD_eq_getElem, Nat.lt_of_succ_lt hi]

/-- A byte enters at the low end and moves the register up by eight bits (R175). -/
theorem shiftIn_byte_getLsbD (sr : Frame) (b : Byte) {i : Nat} (hi : i < 64) :
    (shiftIn sr (.byte b)).getLsbD i = if i < 8 then b.getLsbD i else sr.getLsbD (i - 8) := by
  simp only [shiftIn, Receiver.shiftByte, byteBits, List.foldl]
  match i with
  | 0 | 1 | 2 | 3 | 4 | 5 | 6 | 7 | i + 8 => simp (disch := omega) only [shiftBit_sr_getLsbD]; simp

theorem byteOf_getLsbD (w : DisplayWord) (k : Nat) {j : Nat} (hj : j < 8) :
    (byteOf w k).getLsbD j = w.getLsbD (8 * k + j) := by
  simp [byteOf, hj]

/-- The events of a word's four bytes, most significant first (R53, R135). -/
def wordEvents (w : DisplayWord) : List OutEvent :=
  [.byte (byteOf w 3), .byte (byteOf w 2), .byte (byteOf w 1), .byte (byteOf w 0)]

/-- The four bytes of a word enter as the word. -/
theorem shiftIn_word_getLsbD (sr : Frame) (w : DisplayWord) {i : Nat} (hi : i < 64) :
    ((wordEvents w).foldl shiftIn sr).getLsbD i = if i < 32 then w.getLsbD i else sr.getLsbD (i - 32) := by
  simp only [wordEvents, List.foldl]
  simp (disch := omega) only [shiftIn_byte_getLsbD]
  split_ifs <;> grind [byteOf_getLsbD]

/-- The eight bytes of a frame displace whatever the register held (R176). -/
theorem shiftIn_frame (sr : Frame) (wa wb : DisplayWord) :
    (wordEvents wb).foldl shiftIn ((wordEvents wa).foldl shiftIn sr) = frameOf wa wb := by
  apply BitVec.eq_of_getLsbD_eq
  intro i hi
  rw [shiftIn_word_getLsbD _ _ hi, frameOf, BitVec.getLsbD_append]
  split
  · rfl
  · rw [shiftIn_word_getLsbD _ _ (by omega), if_pos (by omega)]

/-! ### The events of a render in progress (R160) -/

theorem frameEvents_eq (wa wb : DisplayWord) :
    frameEvents wa wb = .latchLow :: (wordEvents wa ++ wordEvents wb) ++ [.latchHigh] := rfl

theorem partialEvents_of_idle {s : State} (h : s.ph.toNat ≤ 1) : partialEvents s = [] := by
  obtain h | h : s.ph.toNat = 0 ∨ s.ph.toNat = 1 := by omega
  all_goals simp [partialEvents, eventsBefore, h]

/-- In the last phase all that is missing is `LatchHigh`. -/
theorem partialEvents_of_last {s : State} (h : s.ph = 12) :
    partialEvents s = .latchLow :: (wordEvents s.wa ++ wordEvents s.wb) := by
  rw [partialEvents, h]
  rfl

/-- A render that has sent one more of its events. -/
theorem partialEvents_append {s t : State} {e : OutEvent} (ha : t.wa = s.wa) (hb : t.wb = s.wb)
    (hn : eventsBefore t.ph.toNat = eventsBefore s.ph.toNat + 1)
    (he : (frameEvents s.wa s.wb)[eventsBefore s.ph.toNat]? = some e) :
    partialEvents t = partialEvents s ++ [e] := by
  rw [partialEvents, ha, hb, hn, List.take_add_one, he]
  rfl

theorem nextPhase_toNat {p : BitVec 4} (h : p.toNat < 12) : (nextPhase p).toNat = p.toNat + 1 := by
  have hne : p ≠ 12 := by rintro rfl; exact absurd h (by decide)
  rw [nextPhase, if_neg hne, BitVec.toNat_add_of_lt]
  · rfl
  · simp; omega

theorem nextPhase_le {p : BitVec 4} (h : p.toNat ≤ 12) : (nextPhase p).toNat ≤ 12 := by
  obtain hlast | hlt := Nat.eq_or_lt_of_le h
  · rw [BitVec.eq_of_toNat_eq (y := 12) hlast]
    decide
  · rw [nextPhase_toNat hlt]
    exact hlt

/-! ### What the invariant reads -/

section
variable {s t : State} {shown : List (Digits × Bool)}

/-- `SHB`, the response and the host's words are no part of the history. -/
theorem State.Shows.withPorts (h : s.Shows shown) (b : Byte) (r : Option Response) (ws : List CommandWord) :
    State.Shows shown { s with shb := b, resp := r, pending := ws } :=
  { h with }

theorem State.Inv.withPorts (h : s.Inv) (b : Byte) (r : Option Response) (ws : List CommandWord) :
    State.Inv { s with shb := b, resp := r, pending := ws } := by
  obtain ⟨hlegal, shown, hshows⟩ := h
  exact ⟨{ hlegal with }, shown, hshows.withPorts b r ws⟩

/-- The two states have the same bus and the same history of it. -/
structure SameBus (s t : State) : Prop where
  latch : t.latch = s.latch
  out : t.out = s.out
  sck : t.sck = s.sck
  rx : t.rx = s.rx

/-- Between renders the history speaks of the bus only: digits, dots and words are free, and a render may be accepted. -/
theorem State.Shows.of_sameBus (h : s.Shows shown) (hbus : SameBus s t) (hs : s.ph.toNat ≤ 1) (ht : t.ph.toNat ≤ 1) :
    t.Shows shown where
  legal := h.legal
  out := by rw [hbus.out, h.out, partialEvents_of_idle hs, partialEvents_of_idle ht]
  builtA := by omega
  builtB := by omega
  latchLow := by omega
  latchHigh _ := hbus.latch ▸ h.latchHigh hs
  latchReset _ := hbus.latch ▸ h.latchReset hs
  clock := hbus.sck.trans h.clock
  follows := by rw [hbus.latch, hbus.rx]; exact h.follows
  driven := by rw [hbus.rx]; exact h.driven
  shifted := by
    have hshift := h.shifted
    rwa [partialEvents_of_idle hs, ← partialEvents_of_idle ht, ← hbus.rx] at hshift

/-! ### The steps of a render -/

/-- `t` is inside the render that `s` is in or has just accepted, `es` being the events in between. -/
structure RenderGoesOn (s t : State) (es : List OutEvent) : Prop where
  inside : 2 ≤ t.ph.toNat
  builtA : 3 ≤ t.ph.toNat → t.wa = wordA t.d t.dots
  builtB : 8 ≤ t.ph.toNat → t.wb = wordB t.d t.dots
  latch : t.latch = false
  clock : t.sck = s.sck
  out : t.out = s.out ++ es
  progress : partialEvents t = partialEvents s ++ es
  held : t.rx.q = s.rx.q
  shifted : t.rx.sr = es.foldl shiftIn s.rx.sr

theorem State.Shows.goesOn (h : s.Shows shown) {es : List OutEvent} (hgo : RenderGoesOn s t es) : t.Shows shown where
  legal := h.legal
  out := by rw [hgo.out, hgo.progress, h.out, List.append_assoc]
  builtA := hgo.builtA
  builtB := hgo.builtB
  latchLow _ := hgo.latch
  latchHigh hph := absurd hgo.inside (by omega)
  latchReset hph := absurd hgo.inside (by omega)
  clock := hgo.clock.trans h.clock
  follows _ hlatch := by simp [hgo.latch] at hlatch
  driven := by rw [hgo.held]; exact h.driven
  shifted := by
    obtain ⟨r, hsr, hr⟩ := h.shifted
    refine ⟨r, ?_, hr⟩
    rw [listen_sr] at hsr ⊢
    rw [hgo.shifted, hgo.progress, List.foldl_append, hsr]

/-- Row 1 of R160. -/
theorem lowerLatch_goesOn (hp : s.ph.toNat = 1) : RenderGoesOn s (advancePhase (lowerLatch s)) [.latchLow] := by
  have hnext : (nextPhase s.ph).toNat = 2 := by rw [nextPhase_toNat] <;> omega
  exact {
    inside := by simp [hnext]
    builtA := by simp [hnext]
    builtB := by simp [hnext]
    latch := rfl
    clock := rfl
    out := rfl
    progress := partialEvents_append rfl rfl (by simp [hnext, hp, eventsBefore]) (by simp [hp, eventsBefore, frameEvents])
    held := rfl
    shifted := rfl }

/-- Row 2 of R160. -/
theorem buildA_goesOn (h : s.Shows shown) (hp : s.ph.toNat = 2) : RenderGoesOn s (advancePhase (buildA s)) [] := by
  have hnext : (nextPhase s.ph).toNat = 3 := by rw [nextPhase_toNat] <;> omega
  exact {
    inside := by simp [hnext]
    builtA := fun _ => rfl
    builtB := by simp [hnext]
    latch := h.latchLow (by omega)
    clock := rfl
    out := by simp
    progress := by simp [partialEvents, hnext, hp, eventsBefore, frameEvents]
    held := rfl
    shifted := rfl }

/-- Row 7 of R160. -/
theorem buildB_goesOn (h : s.Shows shown) (hp : s.ph.toNat = 7) : RenderGoesOn s (advancePhase (buildB s)) [] := by
  have hnext : (nextPhase s.ph).toNat = 8 := by rw [nextPhase_toNat] <;> omega
  exact {
    inside := by simp [hnext]
    builtA := fun _ => h.builtA (by omega)
    builtB := fun _ => rfl
    latch := h.latchLow (by omega)
    clock := rfl
    out := by simp
    progress := by simp [partialEvents, hnext, hp, eventsBefore, frameEvents]
    held := rfl
    shifted := rfl }

/-- The rows 3 to 6 and 8 to 11 of R160, which send the byte that comes next in the frame. -/
theorem sendByte_goesOn (h : s.Shows shown) {b : Byte} (hfirst : 3 ≤ s.ph.toNat) (hlast : s.ph.toNat < 12)
    (hbuild : s.ph.toNat ≠ 7) (hcount : eventsBefore (s.ph.toNat + 1) = eventsBefore s.ph.toNat + 1)
    (hbyte : (frameEvents s.wa s.wb)[eventsBefore s.ph.toNat]? = some (.byte b)) :
    RenderGoesOn s (advancePhase (sendByte b s)) [.byte b] := by
  have hnext := nextPhase_toNat hlast
  have hlow : s.latch = false := h.latchLow (by omega)
  exact {
    inside := by simp [hnext]; omega
    builtA := fun _ => h.builtA hfirst
    builtB := fun hph => h.builtB (by simp only [advancePhase_ph, sendByte_ph, hnext] at hph; omega)
    latch := hlow
    clock := rfl
    out := rfl
    progress := partialEvents_append rfl rfl (by simpa [hnext] using hcount) hbyte
    held := by simp [hlow, onEvent_byte_low_q]
    shifted := onEvent_sr _ _ _ _ }

/-- In the last phase the whole frame stands in the shift register (R176). -/
theorem State.Shows.sr_of_last (h : s.Shows shown) (hp : s.ph = 12) : s.rx.sr = frameOf s.wa s.wb := by
  obtain ⟨r, hsr, -⟩ := h.shifted
  rw [hsr, listen_sr, partialEvents_of_last hp]
  simp only [List.foldl_cons, List.foldl_append]
  exact shiftIn_frame _ _ _

/-- Row 12 of R160 completes the render: the display state joins those that were shown. -/
theorem State.Shows.complete (h : s.Shows shown) (hp : s.ph = 12) (hd : s.d.Legal) :
    (advancePhase (respond .ok (raiseLatch s))).Shows (shown ++ [(s.d, s.dots)]) := by
  have hwa : s.wa = wordA s.d s.dots := h.builtA (by simp [hp])
  have hwb : s.wb = wordB s.d s.dots := h.builtB (by simp [hp])
  have hnext : nextPhase s.ph = 0 := by simp [hp, nextPhase]
  have hidle : partialEvents (advancePhase (respond .ok (raiseLatch s))) = [] :=
    partialEvents_of_idle (by simp [hnext])
  have hframe : s.rx.sr = frameOf (wordA s.d s.dots) (wordB s.d s.dots) := by
    rw [h.sr_of_last hp, hwa, hwb]
  have hlast : ∀ x, (shown ++ [(s.d, s.dots)]).getLast? = some x →
      s.rx.sr = frameOf (wordA x.1 x.2) (wordB x.1 x.2) := by
    intro x hx
    rw [List.getLast?_concat] at hx
    cases hx
    exact hframe
  exact {
    legal := by
      intro x hx
      obtain hx | hx := List.mem_append.mp hx
      · exact h.legal x hx
      · rw [List.mem_singleton.mp hx]
        exact hd
    out := by
      simp [h.out, partialEvents_of_last hp, hidle, renderEvents, frameEvents_eq, hwa, hwb]
    builtA := by simp [hnext]
    builtB := by simp [hnext]
    latchLow := by simp [hnext]
    latchHigh := fun _ _ => rfl
    latchReset := by simp
    clock := h.clock
    follows := fun _ _ => rfl
    driven := hlast
    shifted := ⟨s.rx, by rw [hidle]; rfl, hlast⟩ }

/-- Each row of R160 goes on with the render or completes it. -/
theorem rowAction_keeps_shows (h : s.Shows shown) (hd : s.d.Legal) {u : State} (hrow : rowAction s.ph.toNat s = some u) :
    ∃ shown', (advancePhase u).Shows shown' := by
  unfold rowAction at hrow
  split at hrow <;> cases hrow
  case h_1 hp => exact ⟨_, h.goesOn (lowerLatch_goesOn hp)⟩
  case h_2 hp => exact ⟨_, h.goesOn (buildA_goesOn h hp)⟩
  case h_7 hp => exact ⟨_, h.goesOn (buildB_goesOn h hp)⟩
  case h_12 hp => exact ⟨_, h.complete (BitVec.eq_of_toNat_eq hp) hd⟩
  all_goals
    next hp =>
      exact ⟨_, h.goesOn (sendByte_goesOn h (by omega) (by omega) (by omega) (by simp [hp, eventsBefore])
        (by simp [hp, eventsBefore, frameEvents]))⟩

end

/-! ### Legal registers (R22, R27, R29) -/

theorem Digits.Legal.set {d : Digits} (h : d.Legal) (p : Position) {v : DigitCode} (hv : v.toNat ≤ 10) :
    (d.set p v).Legal := by
  intro q
  by_cases hq : q = p
  · rw [hq, digits_get_set_same]
    exact hv
  · rw [digits_get_set_other d v hq]
    exact h q

theorem allBlank_legal : Digits.allBlank.Legal := by
  intro p
  cases p <;> decide

theorem cause_code_ne_zero (c : Cause) : c.code ≠ 0 := by cases c <;> decide

section
variable {s t : State}

/-- A rejection changes no register but `ERR` and `CAUSE`, and sets both (R194). -/
theorem State.Legal.reject (h : s.Legal) (c : Cause) : (reject c s).Legal where
  digits := h.digits
  phase := h.phase
  cause := by simpa using cause_code_ne_zero c

theorem rowAction_keeps_legal (h : s.Legal) (hrow : rowAction s.ph.toNat s = some t) : (advancePhase t).Legal := by
  obtain ⟨hd, -, herr, hcause, hph, -⟩ := rowAction_frame hrow
  refine ⟨hd ▸ h.digits, ?_, by simpa [herr, hcause] using h.cause⟩
  simpa [hph] using nextPhase_le h.phase

/-! ### The host's step and the reset step -/

/-- Carrying out an update command leaves the bus alone and the registers legal (R110, R112, R194). -/
theorem exec_update_keeps {i : Instr} (hi : i ≠ .render) (h : s.Legal) (hexec : exec i s = .next t) :
    t.Legal ∧ SameBus s t := by
  cases i with
  | setdigit p v =>
    obtain ⟨-, rfl⟩ | ⟨q, -, -, rfl⟩ | ⟨q, x, -, hx, rfl⟩ := execSetdigit_cases hexec
    · exact ⟨h.reject _, rfl, rfl, rfl, rfl⟩
    · exact ⟨h.reject _, rfl, rfl, rfl, rfl⟩
    · have hle : x.toNat ≤ 10 := by
        obtain ⟨hxv, hv⟩ := digitOf_toNat_le hx
        omega
      exact ⟨⟨h.digits.set q hle, h.phase, h.cause⟩, rfl, rfl, rfl, rfl⟩
  | setdots e =>
    cases hexec
    exact ⟨⟨h.digits, h.phase, h.cause⟩, rfl, rfl, rfl, rfl⟩
  | render => exact absurd rfl hi

/-- Accepting a word at the micro-step level leaves the bus alone and starts a render at most (R162). -/
theorem acceptWord_keeps {w : CommandWord} (h : s.Legal) (hph : s.ph = 0) (hacc : acceptWord w s = .next t) :
    t.Legal ∧ SameBus s t ∧ t.ph.toNat ≤ 1 := by
  obtain ⟨i, -, hi, hexec⟩ | ⟨-, rfl⟩ | ⟨why, -, rfl⟩ := acceptWord_cases hacc
  · obtain ⟨-, hsame, -⟩ := exec_frame hexec
    obtain ⟨hlegal, hbus⟩ := exec_update_keeps hi h hexec
    exact ⟨hlegal, hbus, by simp [hsame, hph]⟩
  · exact ⟨⟨h.digits, by simp, h.cause⟩, ⟨rfl, rfl, rfl, rfl⟩, by simp⟩
  · exact ⟨h.reject _, ⟨rfl, rfl, rfl, rfl⟩, by simp [hph]⟩

/-- Before any render is shown the history asks for the reset values of the block and a level-high receiver that follows
(R35, R175); the receiver's contents are free. -/
theorem reset_inv (rx : Receiver) (draws : Nat) (rst : Bool) (ws : List CommandWord)
    (hfollow : Config.latchSense = .levelHigh → Config.latchReset = true → rx.q = rx.sr) :
    State.Inv { State.reset with rx := rx, draws := draws, rst := rst, pending := ws } := by
  refine ⟨⟨allBlank_legal, by simp [State.reset], by simp [State.reset]⟩, [], ?_⟩
  exact {
    legal := by simp
    out := rfl
    builtA := by simp [State.reset]
    builtB := by simp [State.reset]
    latchLow := by simp [State.reset]
    latchHigh := by simp
    latchReset := fun _ _ => rfl
    clock := rfl
    follows := hfollow
    driven := by simp
    shifted := ⟨rx, rfl, by simp⟩ }

/-- A level-high receiver whose line is high drives what it has shifted in (R175). -/
theorem follow_levelHigh (r : Receiver) : (r.follow .levelHigh true).q = (r.follow .levelHigh true).sr := rfl

theorem resetStep_inv (s : State) : (resetStep s).Inv := by
  apply reset_inv
  intro hsense hlatch
  split
  · rw [Receiver.onLines, hsense, show State.reset.lines.latch = true from hlatch]
    exact follow_levelHigh _
  · rw [Receiver.unspecified, hsense, hlatch]
    exact follow_levelHigh _

/-! ### Every step keeps the invariant -/

theorem hostStep_acceptWord_keeps_inv (h : s.Inv) (hph : s.ph = 0) (hhost : hostStep acceptWord s = .next t) :
    t.Inv := by
  obtain ⟨-, rfl⟩ | ⟨w, rest, -, hacc⟩ := hostStep_cases hhost
  · exact h.withPorts s.shb none s.pending
  · obtain ⟨hlegal, shown, hshows⟩ := h.withPorts s.shb none rest
    obtain ⟨hlegal', hbus, hidle⟩ := acceptWord_keeps hlegal hph hacc
    exact ⟨hlegal', shown, hshows.of_sameBus hbus (by simp [hph]) hidle⟩

theorem sequencerStep_keeps_inv (h : s.Inv) (hseq : sequencerStep s = .next t) : t.Inv := by
  obtain ⟨u, hrow, rfl⟩ := sequencerStep_cases hseq
  obtain ⟨hlegal, shown, hshows⟩ := h.withPorts s.shb none s.pending
  exact ⟨rowAction_keeps_legal hlegal hrow, rowAction_keeps_shows hshows hlegal.digits hrow⟩

theorem microStep_keeps_inv (h : s.Inv) (hstep : microStep s = .next t) : t.Inv := by
  obtain ⟨-, rfl⟩ | ⟨-, hph, hhost⟩ | ⟨-, -, hseq⟩ := stepWith_cases hstep
  · exact resetStep_inv s
  · exact hostStep_acceptWord_keeps_inv h hph hhost
  · exact sequencerStep_keeps_inv h hseq

/-- A step is one micro-step or, when it is a `RENDER`, thirteen of them up to `SHB` (R166, R170). -/
theorem step_eq_microStep_or_microRun (hstep : step s = .next t) :
    microStep s = .next t ∨ ∃ b, microRun 13 s = .next { t with shb := b } := by
  obtain ⟨hrst, rfl⟩ | ⟨hrst, hph, hhost⟩ | ⟨hrst, hph, hseq⟩ := stepWith_cases hstep
  · exact .inl (by simp [microStep, stepWith, hrst])
  · obtain ⟨hp, rfl⟩ | ⟨w, rest, hp, -⟩ := hostStep_cases hhost
    · exact .inl (by simp [microStep, stepWith, hostStep, hrst, hph, hp])
    · by_cases hd : decode w = .command .render
      · exact .inr ⟨_, microRun_of_render ⟨hrst, hph⟩ hp hd hstep⟩
      · exact .inl ((microStep_of_not_render ⟨hrst, hph⟩ hp hd).trans hstep)
  · exact .inl ((stepWith_of_busy acceptWord hrst hph).trans hseq)

theorem step_keeps_inv (h : s.Inv) (hstep : step s = .next t) : t.Inv := by
  obtain hmicro | ⟨b, hmicro⟩ := step_eq_microStep_or_microRun hstep
  · exact microStep_keeps_inv h hmicro
  · have hkeep := runWith_keeps (fun _ _ => microStep_keeps_inv) 13 s _ h hmicro
    exact hkeep.withPorts t.shb t.resp t.pending

end

/-- Settles O56, by the three agents of a micro-step: the reset input, the host and the sequencer. -/
theorem microStepKeepsTheInvariant : Obligations.MicroStepKeepsTheInvariant :=
  fun _ _ => microStep_keeps_inv

/-- Settles O55, from the micro-steps that a step stands for. -/
theorem stepKeepsTheInvariant : Obligations.StepKeepsTheInvariant :=
  fun _ _ => step_keeps_inv

/-- Settles O54: at power-up a level-high receiver with its line high drives what it holds (R175). -/
theorem resetHasTheInvariant : Obligations.ResetHasTheInvariant :=
  reset_inv Receiver.atPowerUp 1 false [] fun hsense hlatch => by simp [Receiver.atPowerUp, hsense, hlatch]

end Sys2Proof.Machine
end

section
/-! PROOFS of the state (spec/10_state.md): where a step stops (R27, R164), what writes `ERR` and `CAUSE` (R29), the fields of
`STATUS` (R30), the waiting block (R34) and the reset values (R35). -/
namespace Sys2Proof.Machine

/-! ### Where a step stops (R27, R164) -/

section
variable {run : CommandWord → State → Answer} {s : State}

/-- Accepting a word never stops at the micro-step level either (R162). -/
theorem acceptWord_answers (w : CommandWord) (s : State) : ∃ t, acceptWord w s = .next t := by
  unfold acceptWord
  cases decode w with
  | command i =>
    cases i with
    | setdigit p v => exact exec_answers (.setdigit p v) s
    | setdots e => exact exec_answers (.setdots e) s
    | render => exact ⟨_, rfl⟩
  | illegal why => exact ⟨_, rfl⟩

theorem hostStep_answers (hrun : ∀ w u, ∃ t, run w u = .next t) (s : State) : ∃ t, hostStep run s = .next t := by
  unfold hostStep
  split
  · exact ⟨_, rfl⟩
  · exact hrun _ _

/-- The sequencer's step answers in the phases that have a row (R160). -/
theorem sequencerStep_answers (hfirst : 1 ≤ s.ph.toNat) (hlast : s.ph.toNat ≤ 12) :
    ∃ t, sequencerStep s = .next t := by
  obtain ⟨u, hrow⟩ := Option.isSome_iff_exists.mp ((rowAction_isSome_iff _ (endResponse s)).mpr ⟨hfirst, hlast⟩)
  exact ⟨advancePhase u, by rw [sequencerStep, hrow]⟩

/-- The phases above 12 have no row (R27, log 11). -/
theorem sequencerStep_faults (h : 13 ≤ s.ph.toNat) : sequencerStep s = .fault .illegalPhase := by
  have hrow : rowAction s.ph.toNat (endResponse s) = none := by
    rw [← Option.not_isSome_iff_eq_none, rowAction_isSome_iff]
    omega
  rw [sequencerStep, hrow]

theorem stepWith_answers (hrun : ∀ w u, ∃ t, run w u = .next t) (h : s.ph.toNat ≤ 12) :
    ∃ t, stepWith run s = .next t := by
  unfold stepWith
  split
  · exact ⟨_, rfl⟩
  · split
    · exact hostStep_answers hrun s
    · next hph =>
      have hpos : s.ph.toNat ≠ 0 := fun h0 => hph (BitVec.eq_of_toNat_eq h0)
      exact sequencerStep_answers (by omega) h

theorem stepWith_faults (run : CommandWord → State → Answer) (h : 13 ≤ s.ph.toNat) (hrst : s.rst = false) :
    stepWith run s = .fault .illegalPhase := by
  have hph : s.ph ≠ 0 := fun h0 => by simp [h0] at h
  rw [stepWith_of_busy run hrst hph, sequencerStep_faults h]

/-- A block that is presented no word waits (R34, R220). -/
theorem stepWith_of_idle (run : CommandWord → State → Answer) (hr : s.Ready) (hp : s.pending = []) :
    stepWith run s = .next (idleStep s) := by
  obtain ⟨hrst, hph⟩ := hr
  simp [stepWith, hostStep, hrst, hph, hp]

end

/-- Settles O12, by the agent of the step: only the sequencer can stop, and only in a phase without a row. -/
theorem stepsStopOnlyInIllegalPhases : Obligations.StepsStopOnlyInIllegalPhases :=
  fun _ => ⟨fun h => ⟨stepWith_answers runWord_answers h, stepWith_answers acceptWord_answers h⟩,
    fun h hrst => ⟨stepWith_faults runWord h hrst, stepWith_faults acceptWord h hrst⟩⟩

/-- Settles O11: the waiting step of R34 at each level. -/
theorem idleBlockWaits : Obligations.IdleBlockWaits :=
  fun _ hr hp => ⟨stepWith_of_idle runWord hr hp, stepWith_of_idle acceptWord hr hp⟩

/-! ### What writes `ERR` and `CAUSE` (R29, R194) -/

/-- From `s` to `t` nothing was rejected, or a rejection was, and recorded (R29). -/
def KeepsRecordOrRejects (s t : State) : Prop :=
  (t.err = s.err ∧ t.cause = s.cause ∧ ∀ c, t.resp ≠ some (.invalidArg c)) ∨
    ∃ c : Cause, t.resp = some (.invalidArg c) ∧ t.err = true ∧ t.cause = c.code ∧ t.cause ≠ 0

section
variable {s t : State}

theorem reject_rejects (c : Cause) (s u : State) : KeepsRecordOrRejects s (reject c u) :=
  .inr ⟨c, rfl, rfl, rfl, cause_code_ne_zero c⟩

theorem keepsRecord_of_ok (herr : t.err = s.err) (hcause : t.cause = s.cause) (hresp : t.resp = some .ok) :
    KeepsRecordOrRejects s t :=
  .inl ⟨herr, hcause, by simp [hresp]⟩

theorem keepsRecord_of_none (herr : t.err = s.err) (hcause : t.cause = s.cause) (hresp : t.resp = none) :
    KeepsRecordOrRejects s t :=
  .inl ⟨herr, hcause, by simp [hresp]⟩

theorem exec_keepsRecordOrRejects {i : Instr} (h : exec i s = .next t) : KeepsRecordOrRejects s t := by
  cases i with
  | setdigit p v =>
    obtain ⟨-, rfl⟩ | ⟨q, -, -, rfl⟩ | ⟨q, x, -, -, rfl⟩ := execSetdigit_cases h
    · exact reject_rejects _ s s
    · exact reject_rejects _ s s
    · exact keepsRecord_of_ok rfl rfl rfl
  | setdots e => cases h; exact keepsRecord_of_ok rfl rfl rfl
  | render => cases h; exact keepsRecord_of_ok (by simp) (by simp) rfl

theorem runWord_keepsRecordOrRejects {w : CommandWord} (h : runWord w s = .next t) : KeepsRecordOrRejects s t := by
  obtain ⟨i, -, hexec⟩ | ⟨why, -, rfl⟩ := runWord_cases h
  · exact exec_keepsRecordOrRejects hexec
  · exact reject_rejects _ s s

/-- Where no response stands, as after the word is taken, the accept step of `RENDER` gives none (R162, log 8). -/
theorem acceptWord_keepsRecordOrRejects {w : CommandWord} (hresp : s.resp = none) (h : acceptWord w s = .next t) :
    KeepsRecordOrRejects s t := by
  obtain ⟨i, -, -, hexec⟩ | ⟨-, rfl⟩ | ⟨why, -, rfl⟩ := acceptWord_cases h
  · exact exec_keepsRecordOrRejects hexec
  · exact keepsRecord_of_none rfl rfl hresp
  · exact reject_rejects _ s s

/-- The last row of R160 answers `OK`, and no other row answers (R162). -/
theorem rowAction_resp {n : Nat} (h : rowAction n s = some t) : t.resp = s.resp ∨ t.resp = some .ok := by
  unfold rowAction at h
  split at h <;> cases h
  case h_12 => exact .inr rfl
  all_goals exact .inl rfl

theorem sequencerStep_keepsRecord (h : sequencerStep s = .next t) : KeepsRecordOrRejects s t := by
  obtain ⟨u, hrow, rfl⟩ := sequencerStep_cases h
  obtain ⟨-, -, herr, hcause, -⟩ := rowAction_frame hrow
  obtain hresp | hresp := rowAction_resp hrow
  · exact keepsRecord_of_none herr hcause hresp
  · exact keepsRecord_of_ok herr hcause hresp

/-- A step writes the record as its command does, or, in reset, clears it (R35). -/
theorem stepWith_record {run : CommandWord → State → Answer}
    (hrun : ∀ w u t, u.resp = none → run w u = .next t → KeepsRecordOrRejects u t) (h : stepWith run s = .next t) :
    (s.rst = false → KeepsRecordOrRejects s t) ∧ (s.rst = true → t.err = false ∧ t.cause = 0) := by
  obtain ⟨hrst, rfl⟩ | ⟨hrst, -, hhost⟩ | ⟨hrst, -, hseq⟩ := stepWith_cases h
  · exact ⟨by simp [hrst], fun _ => ⟨rfl, rfl⟩⟩
  · refine ⟨fun _ => ?_, by simp [hrst]⟩
    obtain ⟨-, rfl⟩ | ⟨w, rest, -, hword⟩ := hostStep_cases hhost
    · exact keepsRecord_of_none rfl rfl rfl
    · exact hrun w (takeCommand rest s) t rfl hword
  · exact ⟨fun _ => sequencerStep_keepsRecord hseq, by simp [hrst]⟩

end

/-- Settles O30, by the agent of the step at each level. -/
theorem onlyRejectionsWriteErrAndCause : Obligations.OnlyRejectionsWriteErrAndCause := by
  rintro s t (hstep | hmicro)
  · exact stepWith_record (fun _ _ _ _ => runWord_keepsRecordOrRejects) hstep
  · exact stepWith_record (fun _ _ _ => acceptWord_keepsRecordOrRejects) hmicro

/-! ### `STATUS` and the reset values (R30, R35) -/

/-- The bits of `STATUS` (R30). -/
theorem status_getLsbD (s : State) (i : Nat) :
    s.status.getLsbD i = match i with
      | 0 => s.busy
      | 1 => s.err
      | 2 => s.cause.getLsbD 0
      | 3 => s.cause.getLsbD 1
      | 4 => s.dots
      | 5 => s.latch
      | _ => false := by
  simp only [State.status, BitVec.getLsbD_append]
  match i with
  | 0 | 1 | 2 | 3 | 4 | 5 => simp
  | i + 6 => simp

theorem busy_eq_decide (s : State) : s.busy = decide (s.ph ≠ 0) := by
  rw [Bool.eq_iff_iff]
  simp [State.busy]

/-- A field of two bits is known by its two bits. -/
theorem extractLsb'_two {n k : Nat} {v : BitVec n} {x : BitVec 2} (hlow : v.getLsbD k = x.getLsbD 0)
    (hhigh : v.getLsbD (k + 1) = x.getLsbD 1) : v.extractLsb' k 2 = x := by
  apply BitVec.eq_of_getLsbD_eq
  intro i hi
  rw [BitVec.getLsbD_extractLsb']
  match i with
  | 0 => simpa using hlow
  | 1 => simpa using hhigh

/-- Settles O35, from the bits of `STATUS`. -/
theorem statusFields : Obligations.StatusFields := by
  refine ⟨fun s => ⟨?_, status_getLsbD s 1, ?_, status_getLsbD s 4, status_getLsbD s 5, ?_⟩, ?_⟩
  · exact (status_getLsbD s 0).trans (busy_eq_decide s)
  · exact extractLsb'_two (status_getLsbD s 2) (status_getLsbD s 3)
  · exact extractLsb'_two (status_getLsbD s 6) (status_getLsbD s 7)
  · simp only [State.status, State.busy, State.reset]
    cases Config.latchReset <;> rfl

/-- Settles O52, field by field. -/
theorem resetValues : Obligations.ResetValues := by
  refine ⟨fun p => ?_, rfl, rfl, rfl, rfl, rfl, rfl, rfl, rfl, rfl, rfl, rfl, rfl⟩
  cases p <;> rfl

end Sys2Proof.Machine
end

section
/-! PROOFS of the frame and its map (spec/20_memory.md R53 to R56, R62). The packer puts each Symbol Code in a field of its own,
which places every code bit and dot bit in the frame. At the bit level a row of R160 sends the bits of its byte, most significant
first, and sending most significant first commutes with concatenation: the bits of the eight bytes are those of the frame. -/
namespace Sys2Proof.Machine

/-! ### The fields of a word and of the frame (R56, R132) -/

/-- The fields of a packed word: three Symbol Codes from the low end up, and the Dot State in the bits 30 and 31 (R132). -/
theorem pack_getLsbD (c0 c1 c2 : SymbolCode) (dot : Bool) {i : Nat} (hi : i < 32) :
    (pack c0 c1 c2 dot).getLsbD i =
      if i < 10 then c0.getLsbD i
      else if i < 20 then c1.getLsbD (i - 10)
      else if i < 30 then c2.getLsbD (i - 20)
      else dot := by
  simp only [pack, BitVec.getLsbD_or, BitVec.getLsbD_shiftLeft, BitVec.getLsbD_setWidth, BitVec.getLsbD_ofBool]
  split_ifs with h10 h20 h30
  · grind
  · grind
  · grind
  · obtain rfl | rfl : i = 30 ∨ i = 31 := by omega
    all_goals simp

/-- Word A is the high half of the frame, word B the low half (R56). -/
theorem frameOf_getLsbD (wa wb : DisplayWord) (i : Nat) :
    (frameOf wa wb).getLsbD i = if i < 32 then wb.getLsbD i else wa.getLsbD (i - 32) :=
  BitVec.getLsbD_append

/-- Code bit `k` of a position lies at its field's offset plus `k` (R56). -/
theorem frameOf_field (d : Digits) (dots : Bool) (p : Position) (k : Fin 10) :
    (frameOf (wordA d dots) (wordB d dots)).getLsbD (fieldOffset p + k.val) = (sym (d.get p)).getLsbD k.val := by
  obtain ⟨k, hk⟩ := k
  rw [frameOf_getLsbD]
  cases p <;> simp only [fieldOffset, wordA, wordB]
  all_goals
    simp (disch := omega) only [pack_getLsbD, if_pos, if_neg]
    congr 1
    omega

/-- The bits 30 and 31 of each word are the dot outputs (R56, R62). -/
theorem frameOf_dotsShown (d : Digits) (dots : Bool) : dotsShown (frameOf (wordA d dots) (wordB d dots)) dots := by
  simp only [dotsShown, dotOutputs, frameOf_getLsbD, wordA, wordB]
  simp (disch := omega) [pack_getLsbD, -BitVec.getLsbD_eq_getElem]

/-! ### Bits in the order they are sent (R53 to R56) -/

/-- The bits of a vector, most significant first. -/
def bitsSent {n : Nat} (v : BitVec n) : List Bool := (List.range n).map v.getMsbD

theorem byteBits_eq_bitsSent (b : Byte) : byteBits b = bitsSent b := by
  simp [byteBits, bitsSent, List.range, List.range.loop, BitVec.getMsbD]

/-- The high part is sent first, then the low part. -/
theorem bitsSent_append {m n : Nat} (v : BitVec m) (w : BitVec n) : bitsSent (v ++ w) = bitsSent v ++ bitsSent w := by
  rw [bitsSent, List.range_add, List.map_append, List.map_map]
  congr 1
  · refine List.map_congr_left fun i hi => ?_
    have hlow : ¬m ≤ i := Nat.not_le.mpr (List.mem_range.mp hi)
    simp [BitVec.getMsbD_append, hlow]
  · refine List.map_congr_left fun i _ => ?_
    simp [BitVec.getMsbD_append]

/-- A word is its four bytes, byte 3 at the high end (R10). -/
theorem byteOf_append (w : DisplayWord) : byteOf w 3 ++ (byteOf w 2 ++ (byteOf w 1 ++ byteOf w 0)) = w := by
  apply BitVec.eq_of_getLsbD_eq
  intro i hi
  simp only [BitVec.getLsbD_append]
  split_ifs
  all_goals
    rw [byteOf_getLsbD _ _ (by omega)]
    congr 1
    omega

/-- A word is sent as its four bytes, byte 3 first (R53). -/
theorem bitsSent_word (w : DisplayWord) :
    bitsSent w = byteBits (byteOf w 3) ++ (byteBits (byteOf w 2) ++ (byteBits (byteOf w 1) ++ byteBits (byteOf w 0))) := by
  simp only [byteBits_eq_bitsSent, ← bitsSent_append, byteOf_append]

/-- Word A is sent first, then word B (R54). -/
theorem bitsSent_frameOf (wa wb : DisplayWord) : bitsSent (frameOf wa wb) = bitsSent wa ++ bitsSent wb :=
  bitsSent_append wa wb

/-- Bit time `t` of a frame is the bit `F[63 - t]` (R56). -/
theorem bitsSent_frame (f : Frame) : bitsSent f = (List.range 64).map fun t => f.getLsbD (63 - t) :=
  List.map_congr_left fun t ht => by simp [BitVec.getMsbD, List.mem_range.mp ht]

/-! ### The bit level sends a byte, a word, a frame (R171) -/

/-- One round of the loop of R171 sends the top bit of `SHB` and shifts it out. -/
theorem lineActions_bitRound (s : State) : lineActions bitRound s = lowerClock (raiseClock (presentBit s)) := rfl

section
variable (s : State)

/-- `s` when the bits of the byte in `SHB` have been sent and heard, bit 7 first (R171). -/
def sendShiftByte : State :=
  { s with
    shb := 0
    bc := s.bc + 8
    sck := false
    sdo := s.shb.getLsbD 0
    out := s.out ++ (byteBits s.shb).map .bit
    rx := Receiver.listen Config.latchSense s.latch ((byteBits s.shb).map .bit) s.rx }

@[simp] theorem sendShiftByte_d : (sendShiftByte s).d = s.d := rfl
@[simp] theorem sendShiftByte_dots : (sendShiftByte s).dots = s.dots := rfl
@[simp] theorem sendShiftByte_wa : (sendShiftByte s).wa = s.wa := rfl
@[simp] theorem sendShiftByte_wb : (sendShiftByte s).wb = s.wb := rfl
@[simp] theorem sendShiftByte_out : (sendShiftByte s).out = s.out ++ (byteBits s.shb).map .bit := rfl

/-- Eight rounds of the loop of R171 send the byte in `SHB`. -/
@[simp] theorem lineActions_eightRounds : lineActions eightRounds s = sendShiftByte s := by
  simp only [eightRounds, lineActions_append, lineActions_bitRound]
  ext1 <;> simp [sendShiftByte, byteBits, Receiver.listen, levelAfter, BitVec.add_assoc]

/-- The rows of R160 at the bit level send the bits of the frame between the two latch events (R171). -/
theorem bitRender_out : (bitRender s).out =
    s.out ++ (OutEvent.latchLow :: (bitsSent (frameOf (wordA s.d s.dots) (wordB s.d s.dots))).map OutEvent.bit ++
      [OutEvent.latchHigh]) := by
  simp [bitRender, renderLineActions, List.range', rowLineActions, lineAction, bitsSent_frameOf, bitsSent_word]

end

/-- Settles O25: the fields of the two words in the frame, and the bits of the eight bytes in the order they are sent. -/
theorem frameMap : Obligations.FrameMap := by
  intro s
  refine ⟨⟨_, rfl, ?_⟩, ⟨rfl, rfl, rfl, rfl, rfl, rfl⟩, frameOf_field s.d s.dots, frameOf_dotsShown s.d s.dots, ?_⟩
  · simp [frameOf]
  · simp only [bitRender_out, bitsSent_frame, List.map_map, Function.comp_def]

end Sys2Proof.Machine
end

section
/-! PROOFS of the encoding (spec/30_encoding.md R91 to R96). Each field of a word is a digit of its number, so decoding is a
case split on that number (`decode_eq`); a word decodes to a command exactly when it is the encoding of that command and the
command fits (`decode_eq_command_iff`). Counting words then is counting commands. -/
namespace Sys2Proof

/-! ### The fields of a word, as digits of its number (R91) -/

section
variable (w : CommandWord)

theorem opField_toNat : (opField w).toNat = w.toNat / 4096 := by
  have hw := w.isLt
  rw [opField, BitVec.extractLsb'_toNat, Nat.shiftRight_eq_div_pow]
  omega

theorem posField_toNat : (posField w).toNat = w.toNat / 256 % 16 := by
  rw [posField, BitVec.extractLsb'_toNat, Nat.shiftRight_eq_div_pow]

theorem valField_toNat : (valField w).toNat = w.toNat % 256 := by
  rw [valField, BitVec.extractLsb'_toNat, Nat.shiftRight_zero]

/-- The reserved bits 7:1 of the field `val` (R94). -/
theorem valField_high_toNat : ((valField w).extractLsb' 1 7).toNat = w.toNat % 256 / 2 := by
  rw [BitVec.extractLsb'_toNat, valField_toNat, Nat.shiftRight_eq_div_pow]
  omega

theorem valField_getLsbD_zero : (valField w).getLsbD 0 = decide (w.toNat % 2 = 1) := by
  rw [BitVec.getLsbD, valField_toNat, Nat.testBit_zero, Nat.mod_mod_of_dvd _ (by decide)]

/-! ### Decoding by the number of the word (R91 to R94) -/

/-- Decoding, with the fields as digits of the number. -/
theorem decode_eq : decode w =
    if w.toNat / 4096 = 1 then .command (.setdigit (w.toNat / 256 % 16) (w.toNat % 256))
    else if w.toNat / 4096 = 2 then
      if w.toNat / 256 % 16 = 0 ∧ w.toNat % 256 / 2 = 0 then .command (.setdots (decide (w.toNat % 2 = 1)))
      else .illegal .setdotsReserved
    else if w.toNat / 4096 = 3 then
      if w.toNat / 256 % 16 = 0 ∧ w.toNat % 256 = 0 then .command .render else .illegal .renderReserved
    else .illegal .unknownOp := by
  simp only [decode, BitVec.toNat_eq, opField_toNat, posField_toNat, valField_toNat, valField_high_toNat,
    valField_getLsbD_zero]
  rfl

/-- The row `SETDIGIT` (R91): `op` is 1, and the operands are the fields. -/
theorem decode_eq_setdigit_iff (p v : Nat) : decode w = .command (.setdigit p v) ↔
    w.toNat / 4096 = 1 ∧ w.toNat / 256 % 16 = p ∧ w.toNat % 256 = v := by
  rw [decode_eq]
  split_ifs <;> simp_all

/-- The row `SETDOTS` (R91): two words. -/
theorem decode_eq_setdots_iff (e : Bool) : decode w = .command (.setdots e) ↔ w.toNat = 0x2000 + e.toNat := by
  rw [decode_eq]
  cases e <;> split_ifs <;> simp <;> omega

/-- The row `RENDER` (R91): one word. -/
theorem decode_eq_render_iff : decode w = .command .render ↔ w.toNat = 0x3000 := by
  rw [decode_eq]
  split_ifs <;> simp <;> omega

/-- What is no row's word is illegal (R93, R94). -/
theorem decode_illegal (hop : w.toNat / 4096 ≠ 1) (hdots : w.toNat / 2 ≠ 0x1000) (hrender : w.toNat ≠ 0x3000) :
    ∃ why, decode w = .illegal why := by
  rw [decode_eq]
  split_ifs
  · omega
  · omega
  · exact ⟨_, rfl⟩
  · omega
  · exact ⟨_, rfl⟩
  · exact ⟨_, rfl⟩

end

/-! ### Encoding, and that decoding is its inverse (R91, R92) -/

theorem append_toNat {m n : Nat} (x : BitVec m) (y : BitVec n) : (x ++ y).toNat = x.toNat * 2 ^ n + y.toNat := by
  rw [BitVec.toNat_append, ← Nat.shiftLeft_add_eq_or_of_lt y.isLt, Nat.shiftLeft_eq]

theorem encode_setdigit_toNat {p v : Nat} (hp : positionFits p) (hv : valueFits v) :
    (encode (.setdigit p v)).toNat = 0x1000 + 256 * p + v := by
  simp only [encode, append_toNat, BitVec.toNat_ofNat]
  omega

theorem encode_setdots_toNat (e : Bool) : (encode (.setdots e)).toNat = 0x2000 + e.toNat := by
  cases e <;> rfl

theorem setdigit_wellFormed_iff (p v : Nat) : (Instr.setdigit p v).WellFormed ↔ positionFits p ∧ valueFits v := by
  simp [Instr.WellFormed, Instr.wellFormed]

/-- A word is a command exactly when the command fits a word and the word is its encoding. -/
theorem decode_eq_command_iff (w : CommandWord) (i : Instr) :
    decode w = .command i ↔ i.WellFormed ∧ encode i = w := by
  rw [BitVec.toNat_eq]
  cases i with
  | setdigit p v =>
    rw [decode_eq_setdigit_iff, setdigit_wellFormed_iff]
    constructor
    · rintro ⟨hop, rfl, rfl⟩
      have hp : positionFits (w.toNat / 256 % 16) := Nat.mod_lt _ (by decide)
      have hv : valueFits (w.toNat % 256) := Nat.mod_lt _ (by decide)
      refine ⟨⟨hp, hv⟩, ?_⟩
      rw [encode_setdigit_toNat hp hv]
      omega
    · rintro ⟨⟨hp, hv⟩, hw⟩
      rw [encode_setdigit_toNat hp hv] at hw
      omega
  | setdots e =>
    rw [decode_eq_setdots_iff, encode_setdots_toNat]
    exact ⟨fun hw => ⟨rfl, hw.symm⟩, fun h => h.2.symm⟩
  | render =>
    rw [decode_eq_render_iff]
    exact ⟨fun hw => ⟨rfl, hw.symm⟩, fun h => h.2.symm⟩

theorem decode_encode {i : Instr} (h : i.WellFormed) : decode (encode i) = .command i :=
  (decode_eq_command_iff _ i).mpr ⟨h, rfl⟩

/-- A command that fits has one word. -/
theorem decode_eq_iff_eq_encode {i : Instr} (h : i.WellFormed) (w : CommandWord) :
    decode w = .command i ↔ w = encode i := by
  rw [decode_eq_command_iff, and_iff_right h, eq_comm]

/-- Settles O1, from the words that a command has. -/
theorem decodeEncodeAgree : Obligations.DecodeEncodeAgree :=
  fun _ => decode_encode

/-- Settles O2, from the words that a command has. -/
theorem commandWordsAreUnique : Obligations.CommandWordsAreUnique :=
  fun w i => (decode_eq_command_iff w i).mp

/-! ### The rows under their masks (R91) -/

/-- A mask of the high bits keeps the number of a word down to a multiple. -/
theorem and_highMask_toNat (w : CommandWord) (k : Nat) :
    (w &&& BitVec.allOnes 16 <<< k).toNat = w.toNat / 2 ^ k * 2 ^ k := by
  have hw : w.toNat / 2 ^ k * 2 ^ k < 2 ^ 16 := (Nat.div_mul_le_self _ _).trans_lt w.isLt
  rw [← BitVec.shiftLeft_ushiftRight, BitVec.toNat_shiftLeft, BitVec.toNat_ushiftRight, Nat.shiftRight_eq_div_pow,
    Nat.shiftLeft_eq, Nat.mod_eq_of_lt hw]

theorem matches_setdigit_iff (w : CommandWord) : w &&& 0xF000#16 = 0x1000#16 ↔ w.toNat / 4096 = 1 := by
  have hmask : (w &&& 0xF000#16).toNat = w.toNat / 4096 * 4096 := and_highMask_toNat w 12
  rw [BitVec.toNat_eq, hmask, BitVec.toNat_ofNat]
  omega

theorem matches_setdots_iff (w : CommandWord) : w &&& 0xFFFE#16 = 0x2000#16 ↔ w.toNat / 2 = 0x1000 := by
  have hmask : (w &&& 0xFFFE#16).toNat = w.toNat / 2 * 2 := and_highMask_toNat w 1
  rw [BitVec.toNat_eq, hmask, BitVec.toNat_ofNat]
  omega

theorem matches_render_iff (w : CommandWord) : w &&& 0xFFFF#16 = 0x3000#16 ↔ w.toNat = 0x3000 := by
  have hmask : (w &&& 0xFFFF#16).toNat = w.toNat / 1 * 1 := and_highMask_toNat w 0
  rw [BitVec.toNat_eq, hmask, BitVec.toNat_ofNat]
  omega

/-- Settles O3: both the match under a row's mask and the decoded command are facts about the number of the word. -/
theorem wordsMatchTheirRows : Obligations.WordsMatchTheirRows := by
  intro w
  simp only [matches_setdigit_iff, matches_setdots_iff, matches_render_iff, decode_eq_setdigit_iff, decode_eq_setdots_iff,
    decode_eq_render_iff]
  refine ⟨by simp, ?_, trivial, fun p v h => h.1, ?_, by omega, by omega, by omega⟩
  · by_cases hodd : w.toNat % 2 = 1 <;> simp [hodd] <;> omega
  · intro e he
    cases e <;> simp at he <;> omega

/-- Settles O5, each word being evaluated. -/
theorem sampleWordsDecode : Obligations.SampleWordsDecode := by
  unfold Obligations.SampleWordsDecode
  decide

end Sys2Proof
end

section
/-! PROOFS of the word counts (spec/30_encoding.md R93). The words are counted as the numbers below 65 536; decoding and
encoding being inverse, as many words are commands as there are commands that fit a word. -/
namespace Sys2Proof

open Machine

/-! ### Counting words by counting commands -/

/-- The numbers below 65 536 stand for the words, one each. -/
theorem countP_words {p : CommandWord → Bool} {S : Finset CommandWord} (h : ∀ w, w ∈ S ↔ p w = true) :
    ((List.range 65536).countP fun n => p (BitVec.ofNat 16 n)) = S.card := by
  have hcount : (List.range 65536).countP (fun n => p (BitVec.ofNat 16 n)) =
      ((Finset.range 65536).filter fun n => p (BitVec.ofNat 16 n) = true).card := by
    rw [← Nat.count_eq_card_filter_range]
    simp [Nat.count]
  rw [hcount]
  refine Finset.card_bij' (fun n _ => BitVec.ofNat 16 n) (fun w _ => w.toNat) ?_ ?_ ?_ ?_
  · intro n hn
    exact (h _).mpr (Finset.mem_filter.mp hn).2
  · intro w hw
    exact Finset.mem_filter.mpr ⟨Finset.mem_range.mpr w.isLt, by simpa using (h w).mp hw⟩
  · intro n hn
    exact Nat.mod_eq_of_lt (Finset.mem_range.mp (Finset.mem_filter.mp hn).1)
  · intro w _
    simp

theorem card_commandWord : Fintype.card CommandWord = 65536 := by
  have hall := countP_words (p := fun _ => true) (S := Finset.univ) (by simp)
  simpa [eq_comm] using hall

/-- The words of the `SETDIGIT` commands with a position in `ps` and a value in `vs`. -/
def setdigitWords (ps vs : Finset Nat) : Finset CommandWord :=
  (ps ×ˢ vs).image fun x => encode (.setdigit x.1 x.2)

section
variable {ps vs : Finset Nat} (hps : ∀ p ∈ ps, positionFits p) (hvs : ∀ v ∈ vs, valueFits v)
include hps hvs

theorem mem_setdigitWords_iff (w : CommandWord) :
    w ∈ setdigitWords ps vs ↔ ∃ p ∈ ps, ∃ v ∈ vs, decode w = .command (.setdigit p v) := by
  simp only [setdigitWords, Finset.mem_image, Finset.mem_product, Prod.exists, decode_eq_command_iff,
    setdigit_wellFormed_iff]
  constructor
  · rintro ⟨p, v, ⟨hp, hv⟩, hw⟩
    exact ⟨p, hp, v, hv, ⟨hps p hp, hvs v hv⟩, hw⟩
  · rintro ⟨p, hp, v, hv, -, hw⟩
    exact ⟨p, v, ⟨hp, hv⟩, hw⟩

/-- Different operands have different words. -/
theorem card_setdigitWords : (setdigitWords ps vs).card = ps.card * vs.card := by
  rw [setdigitWords, Finset.card_image_of_injOn, Finset.card_product]
  rintro ⟨p, v⟩ hx ⟨p', v'⟩ hy heq
  obtain ⟨hp, hv⟩ := Finset.mem_product.mp hx
  obtain ⟨hp', hv'⟩ := Finset.mem_product.mp hy
  have hdec : Decoded.command (.setdigit p v) = .command (.setdigit p' v') := by
    rw [← decode_encode ((setdigit_wellFormed_iff p v).mpr ⟨hps p hp, hvs v hv⟩),
      ← decode_encode ((setdigit_wellFormed_iff p' v').mpr ⟨hps p' hp', hvs v' hv'⟩)]
    exact congrArg decode heq
  simpa using hdec

end

/-! ### The four kinds of word (R93) -/

theorem acceptedPosition_fits : ∀ p ∈ Finset.Icc 1 6, positionFits p :=
  fun _ hp => (Finset.mem_Icc.mp hp).2.trans_lt (by decide)

theorem acceptedValue_fits : ∀ v ∈ Finset.range 11, valueFits v :=
  fun _ hv => (Finset.mem_range.mp hv).trans (by decide)

/-- Every word of the row `SETDIGIT`. -/
def allSetdigits : Finset CommandWord := setdigitWords (Finset.range 16) (Finset.range 256)

/-- The words of the `SETDIGIT` commands that the block accepts. -/
def acceptedSetdigits : Finset CommandWord := setdigitWords (Finset.Icc 1 6) (Finset.range 11)

/-- The words of the other commands: the two `SETDOTS` and `RENDER`. -/
def otherCommands : Finset CommandWord := {0x2000#16, 0x2001#16, 0x3000#16}

theorem mem_allSetdigits_iff (w : CommandWord) : w ∈ allSetdigits ↔ ∃ p v, decode w = .command (.setdigit p v) := by
  rw [allSetdigits, mem_setdigitWords_iff (fun _ => Finset.mem_range.mp) (fun _ => Finset.mem_range.mp)]
  constructor
  · rintro ⟨p, -, v, -, hd⟩
    exact ⟨p, v, hd⟩
  · rintro ⟨p, v, hd⟩
    obtain ⟨hfits, -⟩ := (decode_eq_command_iff w _).mp hd
    obtain ⟨hp, hv⟩ := (setdigit_wellFormed_iff p v).mp hfits
    exact ⟨p, Finset.mem_range.mpr hp, v, Finset.mem_range.mpr hv, hd⟩

theorem mem_acceptedSetdigits_iff (w : CommandWord) :
    w ∈ acceptedSetdigits ↔ ∃ p v, decode w = .command (.setdigit p v) ∧ 1 ≤ p ∧ p ≤ 6 ∧ v ≤ 10 := by
  rw [acceptedSetdigits, mem_setdigitWords_iff acceptedPosition_fits acceptedValue_fits]
  constructor
  · rintro ⟨p, hp, v, hv, hd⟩
    obtain ⟨hlow, hhigh⟩ := Finset.mem_Icc.mp hp
    exact ⟨p, v, hd, hlow, hhigh, Nat.le_of_lt_succ (Finset.mem_range.mp hv)⟩
  · rintro ⟨p, v, hd, hlow, hhigh, hv⟩
    exact ⟨p, Finset.mem_Icc.mpr ⟨hlow, hhigh⟩, v, Finset.mem_range.mpr (Nat.lt_succ_of_le hv), hd⟩

theorem mem_otherCommands_iff (w : CommandWord) :
    w ∈ otherCommands ↔ (∃ e, decode w = .command (.setdots e)) ∨ decode w = .command .render := by
  simp [otherCommands, decode_eq_command_iff, Instr.WellFormed, Instr.wellFormed, encode, eq_comm, or_assoc]

theorem mem_illegal_iff (w : CommandWord) : w ∈ (allSetdigits ∪ otherCommands)ᶜ ↔ (decode w).instr?.isNone = true := by
  rw [Finset.mem_compl, Finset.mem_union, mem_allSetdigits_iff, mem_otherCommands_iff]
  cases hd : decode w with
  | command i => cases i <;> simp [Decoded.instr?]
  | illegal why => simp [Decoded.instr?]

theorem mem_accepted_iff (w : CommandWord) : w ∈ acceptedSetdigits ∪ otherCommands ↔ acceptedWord w = true := by
  rw [Finset.mem_union, mem_acceptedSetdigits_iff, mem_otherCommands_iff, acceptedWord]
  cases hd : decode w with
  | command i => cases i <;> simp
  | illegal why => simp

/-- Whether a word matches the row `SETDIGIT` under its mask (R91). -/
def matchesSetdigit (w : CommandWord) : Bool := decide (w &&& 0xF000#16 = 0x1000#16)

theorem mem_allSetdigits_iff_matches (w : CommandWord) : w ∈ allSetdigits ↔ matchesSetdigit w = true := by
  rw [mem_allSetdigits_iff, matchesSetdigit, decide_eq_true_iff, matches_setdigit_iff]
  simp [decode_eq_setdigit_iff]

theorem acceptedSetdigits_subset : acceptedSetdigits ⊆ allSetdigits := by
  intro w hw
  obtain ⟨p, v, hd, -⟩ := (mem_acceptedSetdigits_iff w).mp hw
  exact (mem_allSetdigits_iff w).mpr ⟨p, v, hd⟩

theorem disjoint_otherCommands : Disjoint allSetdigits otherCommands := by
  refine Finset.disjoint_left.mpr fun w hset hother => ?_
  obtain ⟨p, v, hd⟩ := (mem_allSetdigits_iff w).mp hset
  simp [mem_otherCommands_iff, hd] at hother

theorem mem_accepted_matches_iff (w : CommandWord) :
    w ∈ acceptedSetdigits ↔ (acceptedWord w && matchesSetdigit w) = true := by
  rw [Bool.and_eq_true, ← mem_accepted_iff, ← mem_allSetdigits_iff_matches, Finset.mem_union]
  constructor
  · exact fun hacc => ⟨.inl hacc, acceptedSetdigits_subset hacc⟩
  · rintro ⟨hacc | hother, hset⟩
    · exact hacc
    · exact absurd hother (Finset.disjoint_left.mp disjoint_otherCommands hset)

theorem mem_rejected_matches_iff (w : CommandWord) :
    w ∈ allSetdigits \ acceptedSetdigits ↔ (!acceptedWord w && matchesSetdigit w) = true := by
  rw [Finset.mem_sdiff, mem_accepted_matches_iff, mem_allSetdigits_iff_matches]
  cases acceptedWord w <;> cases matchesSetdigit w <;> decide

theorem card_allSetdigits : allSetdigits.card = 4096 := by
  rw [allSetdigits, card_setdigitWords (fun _ => Finset.mem_range.mp) (fun _ => Finset.mem_range.mp)]
  simp

theorem card_acceptedSetdigits : acceptedSetdigits.card = 66 := by
  rw [acceptedSetdigits, card_setdigitWords acceptedPosition_fits acceptedValue_fits]
  simp

/-- Settles O4, the words being counted as commands. -/
theorem wordCounts : Obligations.WordCounts := by
  refine ⟨(countP_words mem_allSetdigits_iff_matches).trans card_allSetdigits, ?_, ?_,
    (countP_words mem_accepted_matches_iff).trans card_acceptedSetdigits, ?_,
    decode_eq_iff_eq_encode rfl, decode_eq_iff_eq_encode rfl, decode_eq_iff_eq_encode rfl⟩
  · rw [countP_words mem_illegal_iff, Finset.card_compl, Finset.card_union_of_disjoint disjoint_otherCommands,
      card_allSetdigits, card_commandWord]
    rfl
  · rw [countP_words mem_accepted_iff,
      Finset.card_union_of_disjoint (disjoint_otherCommands.mono_left acceptedSetdigits_subset), card_acceptedSetdigits]
    rfl
  · refine (countP_words mem_rejected_matches_iff).trans ?_
    rw [Finset.card_sdiff_of_subset acceptedSetdigits_subset, card_allSetdigits, card_acceptedSetdigits]

end Sys2Proof
end

section
/-! PROOFS of the Symbol Codes (spec/30_encoding.md R80 to R82). Bit `k` of a Digit Value's code says whether the value is `k`
(`sym_getLsbD`); BLANK is 10, which is the number of no bit. -/
namespace Sys2Proof.Machine

/-- The bits of a Symbol Code (R81). -/
theorem sym_getLsbD {v : DigitCode} (hv : v.toNat ≤ 10) (k : Fin 10) :
    (sym v).getLsbD k.val = decide (k.val = v.toNat) := by
  obtain ⟨k, hk⟩ := k
  by_cases hdigit : v.toNat ≤ 9
  · have hle : v ≤ 9 := hdigit
    have hlt : v.toNat < 10 := by omega
    rw [sym, if_pos hle, ← BitVec.twoPow_eq, BitVec.getLsbD_twoPow]
    simp [hlt, eq_comm]
  · have hblank : v = 10#4 := BitVec.eq_of_toNat_eq (Nat.le_antisymm hv (Nat.lt_of_not_le hdigit))
    have hzero : sym 10#4 = 0#10 := rfl
    rw [hblank, hzero, BitVec.getLsbD_zero, eq_comm, decide_eq_false_iff_not]
    exact hk.ne

/-- A Digit Value can be read off its code. -/
theorem sym_injective {v w : DigitCode} (hv : v.toNat ≤ 10) (hw : w.toNat ≤ 10) (heq : sym v = sym w) : v = w := by
  have hbits (k : Fin 10) : k.val = v.toNat ↔ k.val = w.toNat := by
    rw [← decide_eq_decide, ← sym_getLsbD hv, heq, sym_getLsbD hw]
  apply BitVec.eq_of_toNat_eq
  by_cases hdigit : v.toNat ≤ 9
  · exact (hbits ⟨v.toNat, by omega⟩).mp rfl
  · by_cases hdigit' : w.toNat ≤ 9
    · exact ((hbits ⟨w.toNat, by omega⟩).mpr rfl).symm
    · omega

/-- Settles O21, from the bits of the codes. -/
theorem symbolCodeTable : Obligations.SymbolCodeTable :=
  ⟨fun _ hv => sym_getLsbD (by omega), rfl⟩

/-- Settles O22, from the bits of the codes. -/
theorem symbolCodesAreOneHotAndInjective : Obligations.SymbolCodesAreOneHotAndInjective := by
  refine ⟨fun v hv => ⟨⟨v.toNat, by omega⟩, ?_, fun j hj => ?_⟩, fun k => ?_, fun _ _ => sym_injective, by decide,
    fun v => (sym v).isLt⟩
  · rw [sym_getLsbD (by omega)]
    exact decide_eq_true rfl
  · rw [sym_getLsbD (by omega), decide_eq_true_iff] at hj
    exact Fin.ext hj
  · rw [sym_getLsbD (by decide), decide_eq_false_iff_not]
    exact k.isLt.ne

end Sys2Proof.Machine
end

section
/-! PROOFS of what a word does when the block takes it (spec/30_encoding.md R94, R96). The three ways a `SETDIGIT` ends are
told apart by its operands (R110), and a ready block runs the word on the state without it, so each kind of word has its
response. -/
namespace Sys2Proof.Machine

/-! ### `SETDIGIT` by its operands (R110, R193) -/

theorem exec_setdigit_of_bad_position {p : Nat} (hp : p < 1 ∨ 6 < p) (v : Nat) (s : State) :
    exec (.setdigit p v) s = .next (reject .badPosition s) := by
  have hnone : positionOf p = none := (positionOf_eq_none_iff p).mpr hp
  simp only [exec, execSetdigit, hnone]

theorem exec_setdigit_of_bad_value {q : Position} {p v : Nat} (hp : positionOf p = some q) (hv : 10 < v) (s : State) :
    exec (.setdigit p v) s = .next (reject .badValue s) := by
  simp only [exec, execSetdigit, hp, digitOf_of_gt hv]

theorem exec_setdigit_of_legal (q : Position) {v : Nat} (hv : v ≤ 10) (s : State) :
    exec (.setdigit q.number v) s = .next (respond .ok (writeDigit q (BitVec.ofNat 4 v) s)) := by
  simp only [exec, execSetdigit, positionOf_number, digitOf_of_le hv]

theorem positionOf_of_legal {p : Nat} (hlow : 1 ≤ p) (hhigh : p ≤ 6) : ∃ q, positionOf p = some q := by
  refine Option.ne_none_iff_exists'.mp fun hnone => ?_
  have hbad := (positionOf_eq_none_iff p).mp hnone
  omega

/-! ### The step of a ready block, by what its word decodes to (R162) -/

section
variable {s : State} {w : CommandWord} {rest : List CommandWord} (hr : s.Ready) (hp : s.pending = w :: rest)
include hr hp

theorem step_of_command {i : Instr} (hd : decode w = .command i) : step s = exec i (takeCommand rest s) :=
  (stepWith_of_ready runWord hr hp).trans (runWord_of_command hd _)

theorem step_of_illegal {why : Illegal} (hd : decode w = .illegal why) :
    step s = .next (reject .badCommand (takeCommand rest s)) :=
  (stepWith_of_ready runWord hr hp).trans (runWord_of_illegal hd _)

end

/-- Settles O6: the first three rows of R94 decode to no command, the others are `SETDIGIT` with bad
operands; each is a rejection of the state without the word (R194). -/
theorem illFormedWordsAreRejected : Obligations.IllFormedWordsAreRejected := by
  intro s w rest hr hp op pos val rejected
  have hillegal (hop : op ≠ 1) (hdots : w.toNat / 2 ≠ 0x1000) (hrender : w.toNat ≠ 0x3000) :
      step s = .next (rejected .badCommand) := by
    obtain ⟨why, hd⟩ := decode_illegal w hop hdots hrender
    exact step_of_illegal hr hp hd
  have hsetdigit (hop : op = 1) : step s = exec (.setdigit pos val) (takeCommand rest s) :=
    step_of_command hr hp ((decode_eq_setdigit_iff w pos val).mpr ⟨hop, rfl, rfl⟩)
  refine ⟨fun h => ?_, fun h => ?_, fun h => ?_, ?_, ?_⟩
  · apply hillegal <;> omega
  · apply hillegal <;> omega
  · apply hillegal <;> omega
  · rintro ⟨hop, hpos⟩
    rw [hsetdigit hop, exec_setdigit_of_bad_position (by omega)]
    rfl
  · rintro ⟨hop, hlow, hhigh, hval⟩
    obtain ⟨q, hq⟩ := positionOf_of_legal hlow hhigh
    rw [hsetdigit hop, exec_setdigit_of_bad_value hq hval]
    rfl

/-! ### The response to a word (R96) -/

/-- What the host is told of a word: `OK` when the word is accepted, and otherwise the cause just recorded. -/
def AnswersWord (w : CommandWord) (t : State) : Prop :=
  ∃ r, t.resp = some r ∧ (acceptedWord w = true → r = .ok) ∧
    (acceptedWord w = false → ∃ c, r = .invalidArg c ∧ r.code = t.cause)

section
variable {w : CommandWord} {s t : State}

theorem answersWord_ok (hacc : acceptedWord w = true) (hresp : t.resp = some .ok) : AnswersWord w t :=
  ⟨.ok, hresp, fun _ => rfl, by simp [hacc]⟩

theorem answersWord_reject (hacc : acceptedWord w = false) (c : Cause) (s : State) : AnswersWord w (reject c s) :=
  ⟨.invalidArg c, rfl, by simp [hacc], fun _ => ⟨c, rfl, rfl⟩⟩

theorem acceptedWord_setdigit {p v : Nat} (hd : decode w = .command (.setdigit p v)) :
    acceptedWord w = decide (1 ≤ p ∧ p ≤ 6 ∧ v ≤ 10) := by
  simp only [acceptedWord, hd]

theorem exec_answersWord {i : Instr} (hd : decode w = .command i) (h : exec i s = .next t) : AnswersWord w t := by
  cases i with
  | setdigit p v =>
    have hacc := acceptedWord_setdigit hd
    obtain ⟨hp, rfl⟩ | ⟨q, hp, hv, rfl⟩ | ⟨q, x, hp, hx, rfl⟩ := execSetdigit_cases h
    · have hbad := (positionOf_eq_none_iff p).mp hp
      exact answersWord_reject (by rw [hacc]; exact decide_eq_false (by omega)) _ _
    · have hbad : ¬v ≤ 10 := fun hle => by simp [digitOf_of_le hle] at hv
      exact answersWord_reject (by rw [hacc]; exact decide_eq_false (by omega)) _ _
    · have hle := (digitOf_toNat_le hx).2
      obtain ⟨hlow, hhigh⟩ := (positionOf_eq_some_iff p q).mp hp ▸ number_range q
      exact answersWord_ok (by rw [hacc]; exact decide_eq_true ⟨hlow, hhigh, hle⟩) rfl
  | setdots e =>
    cases h
    exact answersWord_ok (by simp only [acceptedWord, hd]) rfl
  | render =>
    cases h
    exact answersWord_ok (by simp only [acceptedWord, hd]) rfl

theorem runWord_answersWord (h : runWord w s = .next t) : AnswersWord w t := by
  obtain ⟨i, hd, hexec⟩ | ⟨why, hd, rfl⟩ := runWord_cases h
  · exact exec_answersWord hd hexec
  · exact answersWord_reject (by simp only [acceptedWord, hd]) _ _

end

/-- Settles O31, from the response to a word and the end of a render. -/
theorem everyCommandIsAnswered : Obligations.EveryCommandIsAnswered := by
  refine ⟨⟨rfl, rfl, rfl, rfl⟩, fun s w rest hr hp => ?_⟩
  obtain ⟨t, hstep, hready, hpend⟩ := step_of_ready hr hp
  have hrun : runWord w (takeCommand rest s) = .next t := (stepWith_of_ready runWord hr hp).symm.trans hstep
  obtain ⟨r, hresp, hok, hbad⟩ := runWord_answersWord hrun
  refine ⟨t, r, hstep, hresp, hpend, hok, hbad, fun hd => ⟨?_, hready.2⟩⟩
  rw [step_of_command hr hp hd] at hstep
  cases hstep
  rw [respond_latch, renderClose_latch]

end Sys2Proof.Machine
end

section
/-! PROOFS of the assembler (spec/30_encoding.md R97, R98) and of what the words of `SHOW` do. A source form assembles to the
encodings of its expansion; `SHOW` is six `SETDIGIT`s, each a write of one digit register, and a render, which puts the frame of
the display state into the receiver (R176). -/
namespace Sys2Proof.Machine

/-! ### What a source form assembles to (R97, R98) -/

/-- Settles O7, by the definition of the expansion. -/
theorem pseudoInstructionsExpand : Obligations.PseudoInstructionsExpand :=
  fun _ _ _ _ _ _ _ => ⟨rfl, rfl, rfl, rfl, rfl, rfl⟩

/-- A list of commands assembles exactly when every command fits a word, to their encodings (R97). -/
theorem encodeAll_eq_some_iff (is : List Instr) (ws : List CommandWord) :
    encodeAll is = some ws ↔ (∀ i ∈ is, i.WellFormed) ∧ is.map encode = ws := by
  induction is generalizing ws with
  | nil => simp [encodeAll]
  | cons i is ih => simp [encodeAll, ih, and_assoc]

theorem encodeAll_isSome_iff (is : List Instr) : (encodeAll is).isSome = true ↔ ∀ i ∈ is, i.WellFormed := by
  simp [Option.isSome_iff_exists, encodeAll_eq_some_iff]

/-- But for a raw word, a source form is assembled from its expansion (R98). -/
theorem assembleSource_eq_encodeAll {src : Source} (h : ∀ n, src ≠ .word n) :
    assembleSource src = encodeAll (expand src) := by
  cases src with
  | word n => exact absurd rfl (h n)
  | _ => rfl

theorem map_decode_map_encode {is : List Instr} (h : ∀ i ∈ is, i.WellFormed) :
    (is.map encode).map decode = is.map .command := by
  rw [List.map_map]
  exact List.map_congr_left fun i hi => decode_encode (h i hi)

/-- Settles O8, from the encodings of a list of commands. -/
theorem assembledWordsDecodeToTheirExpansion : Obligations.AssembledWordsDecodeToTheirExpansion := by
  refine ⟨fun src ws hsrc hws => ?_, fun src hsrc => ?_, fun n hn => ?_⟩
  · rw [assembleSource_eq_encodeAll hsrc, encodeAll_eq_some_iff] at hws
    obtain ⟨hfits, rfl⟩ := hws
    exact map_decode_map_encode hfits
  · rw [assembleSource_eq_encodeAll hsrc]
    exact encodeAll_isSome_iff _
  · rw [assembleSource, if_pos hn]

/-! ### Runs of `SETDIGIT`s (R110) -/

/-- Writes to digit registers, one after the other. -/
def writeDigits (xs : List (Position × Nat)) (d : Digits) : Digits :=
  xs.foldl (fun d x => d.set x.1 (BitVec.ofNat 4 x.2)) d

/-- The words of the `SETDIGIT`s that make these writes. -/
def digitWords (xs : List (Position × Nat)) : List CommandWord :=
  xs.map fun x => encode (.setdigit x.1.number x.2)

theorem setdigit_wellFormed_of_legal (q : Position) {v : Nat} (hv : v ≤ 10) :
    (Instr.setdigit q.number v).WellFormed := by
  obtain ⟨-, hq⟩ := number_range q
  exact (setdigit_wellFormed_iff _ _).mpr ⟨by omega, by omega⟩

/-- From `s` to `t` the block took words and rejected none: it is ready for `rest`, and its digits are `d`. -/
structure WordsTaken (s t : State) (d : Digits) (rest : List CommandWord) : Prop where
  ready : t.Ready
  pending : t.pending = rest
  digits : t.d = d
  dots : t.dots = s.dots
  err : t.err = s.err

theorem step_setdigit {s : State} (hr : s.Ready) (q : Position) {v : Nat} (hv : v ≤ 10) {rest : List CommandWord}
    (hp : s.pending = encode (.setdigit q.number v) :: rest) :
    ∃ t, step s = .next t ∧ WordsTaken s t (s.d.set q (BitVec.ofNat 4 v)) rest := by
  refine ⟨_, (step_of_command hr hp (decode_encode (setdigit_wellFormed_of_legal q hv))).trans
    (exec_setdigit_of_legal q hv _), ?_⟩
  exact ⟨hr, rfl, rfl, rfl, rfl⟩

theorem run_digitWords (xs : List (Position × Nat)) (hxs : ∀ x ∈ xs, x.2 ≤ 10) {rest : List CommandWord} :
    ∀ {s : State}, s.Ready → s.pending = digitWords xs ++ rest →
      ∃ t, run xs.length s = .next t ∧ WordsTaken s t (writeDigits xs s.d) rest := by
  induction xs with
  | nil => exact fun hr hp => ⟨_, rfl, hr, hp, rfl, rfl, rfl⟩
  | cons x xs ih =>
    intro s hr hp
    obtain ⟨hx, hrest⟩ := List.forall_mem_cons.mp hxs
    obtain ⟨u, hstep, hu⟩ := step_setdigit hr x.1 hx hp
    obtain ⟨t, hrun, ht⟩ := ih hrest hu.ready hu.pending
    refine ⟨t, ?_, ht.ready, ht.pending, ?_, ht.dots.trans hu.dots, ht.err.trans hu.err⟩
    · rw [List.length_cons, Nat.add_comm]
      exact (runWith_add_of_next (runWith_one hstep) _).trans hrun
    · rw [ht.digits, hu.digits]
      rfl

/-! ### What a render leaves on the display (R130, R176) -/

/-- Sending a word shifts its four bytes into the receiver (R135, R175). -/
theorem sendWord_rx_sr (w : DisplayWord) (s : State) :
    (sendWord w s).rx.sr = (wordEvents w).foldl shiftIn s.rx.sr := by
  simp only [sendWord, wordEvents, emit_rx, onEvent_sr, List.foldl]

/-- A render puts the frame of the display state into the receiver's output latch, whatever the receiver held (R176). -/
theorem render_rx_q (s : State) :
    (renderClose (renderMiddle (renderOpen s))).rx.q = frameOf (wordA s.d s.dots) (wordB s.d s.dots) := by
  simp only [renderClose_rx, Receiver.commit, sendWord_rx_sr, renderMiddle_rx, renderMiddle_wb, renderOpen_wa, renderOpen_d,
    renderOpen_dots, shiftIn_frame]

/-- The frame of a legal display state shows its digits and its dots (R176). -/
theorem frameOf_shown {d : Digits} (hd : d.Legal) (dots : Bool) :
    Shown (frameOf (wordA d dots) (wordB d dots)) d dots := by
  refine ⟨fun p k => ?_, frameOf_dotsShown d dots⟩
  rw [cathodeOn, frameOf_field, sym_getLsbD (hd p), decide_eq_true_iff, eq_comm]

theorem step_render {s : State} (hr : s.Ready) (hd : s.d.Legal) {rest : List CommandWord}
    (hp : s.pending = encode .render :: rest) :
    ∃ t, step s = .next t ∧ WordsTaken s t s.d rest ∧ Shown t.rx.q t.d t.dots := by
  refine ⟨respond .ok (renderClose (renderMiddle (renderOpen (takeCommand rest s)))),
    step_of_command hr hp (decode_encode (i := .render) rfl), ?_, ?_⟩
  · exact ⟨by simpa [State.Ready] using hr, by simp, by simp, by simp, by simp⟩
  · rw [respond_rx, render_rx_q]
    simpa using frameOf_shown hd s.dots

/-! ### `SHOW` (R98) -/

/-- The digits `v1` to `v6` at the positions NX1 to NX6. -/
def showDigits (v1 v2 v3 v4 v5 v6 : Nat) : Digits :=
  { nx1 := BitVec.ofNat 4 v1, nx2 := BitVec.ofNat 4 v2, nx3 := BitVec.ofNat 4 v3,
    nx4 := BitVec.ofNat 4 v4, nx5 := BitVec.ofNat 4 v5, nx6 := BitVec.ofNat 4 v6 }

/-- The writes of `SETALL` and `SHOW` (R98). -/
def showWrites (v1 v2 v3 v4 v5 v6 : Nat) : List (Position × Nat) :=
  [(.nx1, v1), (.nx2, v2), (.nx3, v3), (.nx4, v4), (.nx5, v5), (.nx6, v6)]

theorem writeDigits_showWrites (v1 v2 v3 v4 v5 v6 : Nat) (d : Digits) :
    writeDigits (showWrites v1 v2 v3 v4 v5 v6) d = showDigits v1 v2 v3 v4 v5 v6 := rfl

theorem assembleSource_show {v1 v2 v3 v4 v5 v6 : Nat} {ws : List CommandWord}
    (h : assembleSource (.show v1 v2 v3 v4 v5 v6) = some ws) :
    ws = digitWords (showWrites v1 v2 v3 v4 v5 v6) ++ [encode .render] :=
  ((encodeAll_eq_some_iff _ _).mp h).2.symm

theorem digitCode_toNat {v : Nat} (hv : v ≤ 10) : (BitVec.ofNat 4 v).toNat = v :=
  Nat.mod_eq_of_lt (by omega)

/-- Settles O9, by the six digit writes and the render that `SHOW` stands for. -/
theorem showDisplaysItsDigits : Obligations.ShowDisplaysItsDigits := by
  intro s v1 v2 v3 v4 v5 v6 ws hr h1 h2 h3 h4 h5 h6 hasm hp
  obtain ⟨u, hrun, hu⟩ := run_digitWords (showWrites v1 v2 v3 v4 v5 v6) (by simp [showWrites, *]) hr
    (hp.trans (assembleSource_show hasm))
  have hdigits : u.d = showDigits v1 v2 v3 v4 v5 v6 := hu.digits.trans (writeDigits_showWrites ..)
  have hlegal : u.d.Legal := by
    rw [hdigits]
    intro p
    cases p <;> exact (digitCode_toNat ‹_›).trans_le ‹_›
  obtain ⟨t, hstep, ht, hshown⟩ := step_render hu.ready hlegal hu.pending
  refine ⟨t, (runWith_add_of_next hrun 1).trans (runWith_one hstep), ht.pending, ht.dots.trans hu.dots,
    ht.err.trans hu.err, ?_, hshown⟩
  rw [ht.digits, hdigits]
  exact ⟨digitCode_toNat h1, digitCode_toNat h2, digitCode_toNat h3, digitCode_toNat h4, digitCode_toNat h5,
    digitCode_toNat h6⟩

end Sys2Proof.Machine
end

section
/-! PROOFS of the state-update commands (spec/40_state_update.md R110 to R113). An accepted update is one write to one register
and the response `OK`; the laws are those of the writes, because a response is overwritten by the next one. -/
namespace Sys2Proof.Machine

/-! ### Writes to the display registers, and the response -/

section
variable (s : State)

@[simp] theorem respond_respond (r r' : Response) : respond r (respond r' s) = respond r s := rfl

@[simp] theorem writeDigit_respond (p : Position) (x : DigitCode) (r : Response) :
    writeDigit p x (respond r s) = respond r (writeDigit p x s) := rfl

@[simp] theorem writeDots_respond (e : Bool) (r : Response) :
    writeDots e (respond r s) = respond r (writeDots e s) := rfl

@[simp] theorem writeDots_writeDots (e f : Bool) : writeDots f (writeDots e s) = writeDots f s := rfl

theorem writeDots_writeDigit (e : Bool) (p : Position) (x : DigitCode) :
    writeDots e (writeDigit p x s) = writeDigit p x (writeDots e s) := rfl

@[simp] theorem writeDigit_writeDigit (p : Position) (x y : DigitCode) :
    writeDigit p y (writeDigit p x s) = writeDigit p y s := by
  simp [writeDigit]

theorem writeDigit_comm {p q : Position} (h : p ≠ q) (x y : DigitCode) :
    writeDigit q y (writeDigit p x s) = writeDigit p x (writeDigit q y s) := by
  simp [writeDigit, digits_set_comm _ x y h]

end

/-! ### `SETDIGIT` (R110, R111) -/

/-- Settles O13: the next state is the write and the response. -/
theorem setdigitStoresTheDigitValue : Obligations.SetdigitStoresTheDigitValue := by
  intro s q v hv
  refine ⟨_, exec_setdigit_of_legal q hv s, ?_, fun q' hq' => ?_, rfl, rfl⟩
  · rw [respond_d, writeDigit_d, digits_get_set_same, digitCode_toNat hv]
  · rw [respond_d, writeDigit_d, digits_get_set_other _ _ hq']

/-- Settles O14: the position is checked first (R193). -/
theorem setdigitRejectsABadPosition : Obligations.SetdigitRejectsABadPosition :=
  fun s _ v hp => exec_setdigit_of_bad_position hp v s

/-- Settles O15: the number of a position names it, so the value is checked. -/
theorem setdigitRejectsABadValue : Obligations.SetdigitRejectsABadValue :=
  fun s q _ hv => exec_setdigit_of_bad_value (positionOf_number q) hv s

/-- R111 (c): of two values stored at one position the second remains. -/
theorem exec_setdigit_overwrites {s t : State} {p : Position} {v w : Nat} (hv : v ≤ 10) (hw : w ≤ 10)
    (ht : exec (.setdigit p.number v) s = .next t) :
    exec (.setdigit p.number w) t = exec (.setdigit p.number w) s := by
  rw [exec_setdigit_of_legal p hv] at ht
  cases ht
  simp [exec_setdigit_of_legal p hw]

/-- R111 (d): stores at different positions commute. -/
theorem exec_setdigit_comm {s t u : State} {p q : Position} {v w : Nat} (hv : v ≤ 10) (hw : w ≤ 10) (hpq : p ≠ q)
    (ht : exec (.setdigit p.number v) s = .next t) (hu : exec (.setdigit q.number w) s = .next u) :
    exec (.setdigit q.number w) t = exec (.setdigit p.number v) u := by
  rw [exec_setdigit_of_legal p hv] at ht
  rw [exec_setdigit_of_legal q hw] at hu
  cases ht
  cases hu
  simp [exec_setdigit_of_legal p hv, exec_setdigit_of_legal q hw, writeDigit_comm s hpq]

theorem exec_setdots (e : Bool) (s : State) : exec (.setdots e) s = .next (respond .ok (writeDots e s)) := rfl

/-- R111 (e): a store of a Digit Value and a store of the Dot State commute. -/
theorem exec_setdots_setdigit_comm {s t u : State} {p : Position} {v : Nat} (hv : v ≤ 10) (e : Bool)
    (ht : exec (.setdigit p.number v) s = .next t) (hu : exec (.setdots e) s = .next u) :
    exec (.setdots e) t = exec (.setdigit p.number v) u := by
  rw [exec_setdigit_of_legal p hv] at ht
  rw [exec_setdots] at hu
  cases ht
  cases hu
  simp [exec_setdigit_of_legal p hv, exec_setdots, writeDots_writeDigit]

/-- R111 (f): legal digit registers stay legal, accepted or rejected. -/
theorem exec_setdigit_keeps_digits_legal {s t : State} {a b : Nat} (hd : s.d.Legal)
    (h : exec (.setdigit a b) s = .next t) : t.d.Legal := by
  obtain ⟨-, rfl⟩ | ⟨q, -, -, rfl⟩ | ⟨q, x, -, hx, rfl⟩ := execSetdigit_cases h
  · exact hd
  · exact hd
  · obtain ⟨rfl, hle⟩ := digitOf_toNat_le hx
    exact hd.set q hle

/-- Settles O16: (a) and (b) are what the store reads back, (c) to (f) the laws above. -/
theorem setdigitLaws : Obligations.SetdigitLaws := by
  intro s p q v w hv hw
  obtain ⟨t, ht, hsame, hother, -, -⟩ := setdigitStoresTheDigitValue s p v hv
  exact ⟨t, ht, hsame, hother, exec_setdigit_overwrites hv hw ht, fun hpq _ hu => exec_setdigit_comm hv hw hpq ht hu,
    fun e _ hu => exec_setdots_setdigit_comm hv e ht hu, fun _ _ _ hd hu => exec_setdigit_keeps_digits_legal hd hu⟩

/-! ### `SETDOTS` (R112, R113) -/

/-- Settles O17: the next state is the write and the response. -/
theorem setdotsStoresTheDotState : Obligations.SetdotsStoresTheDotState :=
  fun s e => ⟨_, exec_setdots e s, rfl, rfl, rfl⟩

/-- R113 (c): of two Dot States stored the second remains. -/
theorem exec_setdots_overwrites {s t : State} {e : Bool} (f : Bool) (ht : exec (.setdots e) s = .next t) :
    exec (.setdots f) t = exec (.setdots f) s := by
  rw [exec_setdots] at ht
  cases ht
  simp [exec_setdots]

/-- Settles O18: (a), (b) and (d) are fields of the write and the response, (c) is the law above. -/
theorem setdotsLaws : Obligations.SetdotsLaws := by
  intro s e f
  have ht := exec_setdots e s
  exact ⟨_, ht, rfl, fun _ => rfl, exec_setdots_overwrites f ht, rfl, rfl, rfl⟩

end Sys2Proof.Machine
end

section
/-! PROOFS of the render (spec/41_render.md R130 to R140). The packer puts each Symbol Code in a field of its own, so that a
word's fields determine it, and outside the four dot bits every frame bit lies in the field of one position. A render appends
ten events that carry the words of the display state; a program's output is what its renders append. -/
namespace Sys2Proof.Machine

/-! ### The packer (R132, R137) -/

section
variable (c0 c1 c2 : SymbolCode) (dot : Bool)

theorem pack_eq_append :
    pack c0 c1 c2 dot =
      (BitVec.ofBool dot ++ (BitVec.ofBool dot ++ (c2 ++ (c1 ++ c0))) : BitVec (1 + (1 + (10 + (10 + 10))))) := by
  apply BitVec.eq_of_getLsbD_eq
  intro i hi
  rw [pack_getLsbD _ _ _ _ hi]
  simp only [BitVec.getLsbD_append, BitVec.getLsbD_ofBool]
  by_cases h30 : i < 30
  · grind
  · obtain rfl | rfl : i = 30 ∨ i = 31 := by omega
    all_goals simp

/-- The parts of a packed word share no bit, so that their OR is their sum (R137). -/
theorem pack_toNat : (pack c0 c1 c2 dot).toNat =
    c0.toNat + c1.toNat * 2 ^ 10 + c2.toNat * 2 ^ 20 + dot.toNat * 2 ^ 30 + dot.toNat * 2 ^ 31 := by
  simp only [pack_eq_append, append_toNat, BitVec.toNat_ofBool]
  omega

/-- The three fields of a packed word are its Symbol Codes. -/
theorem pack_fields :
    (pack c0 c1 c2 dot).extractLsb' 0 10 = c0 ∧ (pack c0 c1 c2 dot).extractLsb' 10 10 = c1 ∧
      (pack c0 c1 c2 dot).extractLsb' 20 10 = c2 := by
  refine ⟨?_, ?_, ?_⟩
  all_goals
    apply BitVec.eq_of_getLsbD_eq
    intro i hi
    rw [BitVec.getLsbD_extractLsb', pack_getLsbD _ _ _ _ (by omega)]
    simp (disch := omega) [hi, if_pos, if_neg]

theorem pack_dotBits : (pack c0 c1 c2 dot).getLsbD 31 = dot ∧ (pack c0 c1 c2 dot).getLsbD 30 = dot :=
  ⟨pack_getLsbD c0 c1 c2 dot (by decide), pack_getLsbD c0 c1 c2 dot (by decide)⟩

end

/-- What was packed can be read off the word. -/
theorem pack_injective {c0 c1 c2 e0 e1 e2 : SymbolCode} {dot dot' : Bool}
    (h : pack c0 c1 c2 dot = pack e0 e1 e2 dot') : c0 = e0 ∧ c1 = e1 ∧ c2 = e2 ∧ dot = dot' := by
  obtain ⟨h0, h1, h2⟩ := pack_fields c0 c1 c2 dot
  obtain ⟨hdot, -⟩ := pack_dotBits c0 c1 c2 dot
  rw [h] at h0 h1 h2 hdot
  obtain ⟨h0', h1', h2'⟩ := pack_fields e0 e1 e2 dot'
  obtain ⟨hdot', -⟩ := pack_dotBits e0 e1 e2 dot'
  exact ⟨h0.symm.trans h0', h1.symm.trans h1', h2.symm.trans h2', hdot.symm.trans hdot'⟩

/-- The largest code of a Digit Value is that of 9 (R81). -/
theorem sym_toNat_le {v : DigitCode} (hv : v.toNat ≤ 10) : (sym v).toNat ≤ 2 ^ 9 := by
  by_cases hdigit : v.toNat ≤ 9
  · have hle : v ≤ 9 := hdigit
    rw [sym, if_pos hle, ← BitVec.twoPow_eq, BitVec.toNat_twoPow]
    exact (Nat.mod_le _ _).trans (Nat.pow_le_pow_right (by decide) hdigit)
  · have hblank : v = 10#4 := BitVec.eq_of_toNat_eq (Nat.le_antisymm hv (Nat.lt_of_not_le hdigit))
    subst hblank
    decide

/-- The largest word of Digit Values is that of three nines with the dots on (R137). -/
theorem pack_sym_toNat_le {v0 v1 v2 : DigitCode} (h0 : v0.toNat ≤ 10) (h1 : v1.toNat ≤ 10) (h2 : v2.toNat ≤ 10)
    (dot : Bool) : (pack (sym v0) (sym v1) (sym v2) dot).toNat ≤ 0xE0080200 := by
  rw [pack_toNat]
  have hs0 := sym_toNat_le h0
  have hs1 := sym_toNat_le h1
  have hs2 := sym_toNat_le h2
  have hdot := Bool.toNat_le dot
  omega

/-- Settles O23, bit by bit. -/
theorem packIsAConcatenation : Obligations.PackIsAConcatenation := pack_eq_append

/-- Settles O24, from the sum and the fields of a packed word and the bytes of any word. -/
theorem packingLaws : Obligations.PackingLaws :=
  ⟨pack_toNat, fun _ _ _ _ _ _ _ _ => pack_injective, fun w => (byteOf_append w).symm,
    fun _ dots hd => ⟨pack_sym_toNat_le (hd .nx6) (hd .nx5) (hd .nx4) dots,
      pack_sym_toNat_le (hd .nx3) (hd .nx2) (hd .nx1) dots⟩, by decide, by decide⟩

/-! ### The lanes of the frame (R56, R138) -/

/-- The bits of a frame: the four dot bits, and ten bits in the field of each position (R56). -/
theorem frameBit_cases {k : Nat} (hk : k < 64) :
    (k = 63 ∨ k = 62 ∨ k = 31 ∨ k = 30) ∨ ∃ (q : Position) (j : Fin 10), k = fieldOffset q + j.val := by
  by_contra! hnone
  obtain ⟨hdot, hfield⟩ := hnone
  have hout (q : Position) : k < fieldOffset q ∨ fieldOffset q + 10 ≤ k := by
    by_contra! hin
    exact hfield q ⟨k - fieldOffset q, by omega⟩ (Nat.add_sub_cancel' hin.1).symm
  have h4 := hout .nx4
  have h5 := hout .nx5
  have h6 := hout .nx6
  have h1 := hout .nx1
  have h2 := hout .nx2
  have h3 := hout .nx3
  simp only [fieldOffset] at h1 h2 h3 h4 h5 h6
  omega

theorem frameOf_dotBit (d : Digits) (dots : Bool) {k : Nat} (hk : k = 63 ∨ k = 62 ∨ k = 31 ∨ k = 30) :
    (frameOf (wordA d dots) (wordB d dots)).getLsbD k = dots := by
  obtain ⟨h63, h62, h31, h30⟩ : _ ∧ _ ∧ _ ∧ _ := by
    simpa only [dotsShown, dotOutputs, List.cons.injEq, and_true] using frameOf_dotsShown d dots
  obtain rfl | rfl | rfl | rfl := hk <;> assumption

/-- Settles O26: a bit outside the position's field is a dot bit or a bit of another position's code, and a bit that is no dot
bit is a bit of some position's code. -/
theorem eachPositionHasItsOwnLane : Obligations.EachPositionHasItsOwnLane := by
  intro d dots dots' p v k
  by_cases hk : k < 64
  · refine ⟨fun hout => ?_, fun hdot => ?_⟩
    · obtain hdot | ⟨q, j, rfl⟩ := frameBit_cases hk
      · rw [frameOf_dotBit _ _ hdot, frameOf_dotBit _ _ hdot]
      · have hq : q ≠ p := by rintro rfl; omega
        rw [frameOf_field, frameOf_field, digits_get_set_other d v hq]
    · obtain hdot' | ⟨q, j, rfl⟩ := frameBit_cases hk
      · omega
      · rw [frameOf_field, frameOf_field]
  · simp [BitVec.getLsbD_of_ge, Nat.not_lt.mp hk]

/-! ### The next state of a render (R130, R139) -/

/-- Everything that a render changes. -/
theorem exec_render_eq (s : State) : exec .render s = .next { s with
    wa := wordA s.d s.dots
    wb := wordB s.d s.dots
    latch := true
    out := s.out ++ renderEvents s.d s.dots
    rx := (renderClose (renderMiddle (renderOpen s))).rx
    resp := some .ok } := by
  refine congrArg Host.Outcome.next ?_
  ext1 <;> simp [renderEvents, frameEvents]

/-- Settles O19: the fields of the next state. -/
theorem renderSendsTheFrame : Obligations.RenderSendsTheFrame :=
  fun s => ⟨_, exec_render_eq s, rfl, rfl, rfl, rfl, rfl, rfl⟩

/-- Settles O20, from the fields of the two packed words. -/
theorem renderedWordsCarryTheSymbols : Obligations.RenderedWordsCarryTheSymbols := by
  intro s t h
  rw [exec_render_eq] at h
  cases h
  obtain ⟨ha31, ha30⟩ := pack_dotBits (sym s.d.nx6) (sym s.d.nx5) (sym s.d.nx4) s.dots
  obtain ⟨hb31, hb30⟩ := pack_dotBits (sym s.d.nx3) (sym s.d.nx2) (sym s.d.nx1) s.dots
  exact ⟨⟨ha31, ha30, hb31, hb30⟩, pack_fields _ _ _ _, pack_fields _ _ _ _⟩

/-! ### The events determine the display state (R140) -/

/-- The words can be read off the events, since their bytes can. -/
theorem frameEvents_injective {wa wb wa' wb' : DisplayWord} (h : frameEvents wa wb = frameEvents wa' wb') :
    wa = wa' ∧ wb = wb' := by
  simp only [frameEvents, List.cons.injEq, OutEvent.byte.injEq, true_and, and_true] at h
  obtain ⟨a3, a2, a1, a0, b3, b2, b1, b0⟩ := h
  constructor
  · rw [← byteOf_append wa, ← byteOf_append wa', a3, a2, a1, a0]
  · rw [← byteOf_append wb, ← byteOf_append wb', b3, b2, b1, b0]

/-- A legal display state can be read off its words. -/
theorem words_injective {d d' : Digits} {dots dots' : Bool} (hd : d.Legal) (hd' : d'.Legal)
    (ha : wordA d dots = wordA d' dots') (hb : wordB d dots = wordB d' dots') : d = d' ∧ dots = dots' := by
  obtain ⟨h6, h5, h4, hdots⟩ := pack_injective ha
  obtain ⟨h3, h2, h1, -⟩ := pack_injective hb
  refine ⟨digits_ext fun p => sym_injective (hd p) (hd' p) ?_, hdots⟩
  cases p <;> assumption

/-- Settles O27: the events give the words, the words the codes, and the codes the digits. -/
theorem renderedEventsDetermineTheDisplay : Obligations.RenderedEventsDetermineTheDisplay := by
  refine ⟨fun s t h => ?_, fun d d' dots dots' hd hd' h => ?_⟩
  · rw [exec_render_eq] at h
    cases h
    exact ⟨rfl, rfl⟩
  · obtain ⟨ha, hb⟩ := frameEvents_injective h
    exact words_injective hd hd' ha hb

/-! ### The output of a program is that of its renders (R32, R140) -/

/-- The events of the renders of some display states, in order. -/
def outputOf (shown : List (Digits × Bool)) : List OutEvent := shown.flatMap fun x => renderEvents x.1 x.2

/-- From `s` to `t` the block rendered `n` times, and nothing else put events on the bus. -/
def AppendsRenders (n : Nat) (s t : State) : Prop :=
  ∃ shown : List (Digits × Bool), shown.length = n ∧ t.out = s.out ++ outputOf shown

section
variable {s t u : State}

theorem appendsRenders_zero (h : t.out = s.out) : AppendsRenders 0 s t :=
  ⟨[], rfl, by simp [outputOf, h]⟩

theorem AppendsRenders.trans {m n : Nat} (hm : AppendsRenders m s t) (hn : AppendsRenders n t u) :
    AppendsRenders (m + n) s u := by
  obtain ⟨xs, hxs, ht⟩ := hm
  obtain ⟨ys, hys, hu⟩ := hn
  exact ⟨xs ++ ys, by rw [List.length_append, hxs, hys], by simp [hu, ht, outputOf]⟩

/-- Only a `RENDER` puts events on the bus (R32). -/
theorem exec_update_out {i : Instr} (hi : i ≠ .render) (h : exec i s = .next t) : t.out = s.out := by
  cases i with
  | setdigit p v => obtain ⟨-, rfl⟩ | ⟨q, -, -, rfl⟩ | ⟨q, x, -, -, rfl⟩ := execSetdigit_cases h <;> rfl
  | setdots e => cases h; rfl
  | render => exact absurd rfl hi

theorem exec_render_appendsRenders (h : exec .render s = .next t) : AppendsRenders 1 s t := by
  rw [exec_render_eq] at h
  cases h
  exact ⟨[(s.d, s.dots)], rfl, by simp [outputOf]⟩

theorem runWord_appendsRenders {w : CommandWord} (h : runWord w s = .next t) :
    AppendsRenders (if rendersWord w then 1 else 0) s t := by
  obtain ⟨i, hd, hexec⟩ | ⟨why, hd, rfl⟩ := runWord_cases h
  · by_cases hi : i = .render
    · subst hi
      simpa [rendersWord, hd] using exec_render_appendsRenders hexec
    · simpa [rendersWord, hd, hi] using appendsRenders_zero (exec_update_out hi hexec)
  · simpa [rendersWord, hd] using appendsRenders_zero (reject_out .badCommand s)

/-- A program puts the events of its renders on the bus, whatever else it holds. -/
theorem run_appendsRenders (ws : List CommandWord) : ∀ s : State, s.Ready → s.pending = ws →
    ∃ t, run ws.length s = .next t ∧ t.pending = [] ∧ AppendsRenders (ws.countP rendersWord) s t := by
  induction ws with
  | nil => exact fun s _ hp => ⟨s, rfl, hp, appendsRenders_zero rfl⟩
  | cons w rest ih =>
    intro s hr hp
    obtain ⟨u, hstep, hready, hpend⟩ := step_of_ready hr hp
    have hword : AppendsRenders (if rendersWord w then 1 else 0) s u :=
      runWord_appendsRenders (s := takeCommand rest s) ((stepWith_of_ready runWord hr hp).symm.trans hstep)
    obtain ⟨t, hrun, hend, hrest⟩ := ih u hready hpend
    refine ⟨t, ?_, hend, ?_⟩
    · rw [List.length_cons, Nat.add_comm]
      exact (runWith_add_of_next (runWith_one hstep) _).trans hrun
    · rw [List.countP_cons, Nat.add_comm]
      exact hword.trans hrest

end

/-! ### Counting events (R140 f) -/

/-- A kind of event of which each render has `n` occurs `n` times a render. -/
theorem countP_outputOf {p : OutEvent → Bool} {n : Nat} (hp : ∀ wa wb, (frameEvents wa wb).countP p = n)
    (shown : List (Digits × Bool)) : (outputOf shown).countP p = n * shown.length := by
  have hone (x : Digits × Bool) : (renderEvents x.1 x.2).countP p = n := hp _ _
  simp [outputOf, List.countP_flatMap, Function.comp_def, hone, Nat.mul_comm]

theorem AppendsRenders.countP {k n : Nat} {s t : State} {p : OutEvent → Bool} (h : AppendsRenders k s t)
    (hp : ∀ wa wb, (frameEvents wa wb).countP p = n) : t.out.countP p = s.out.countP p + n * k := by
  obtain ⟨shown, rfl, hout⟩ := h
  rw [hout, List.countP_append, countP_outputOf hp]

/-- Settles O28: the program's renders, and the events of each kind that a render has. -/
theorem latchPulsesCountRenders : Obligations.LatchPulsesCountRenders := by
  intro s hr
  obtain ⟨t, hrun, hend, hrenders⟩ := run_appendsRenders s.pending s hr rfl
  have hlow := hrenders.countP (p := (· == .latchLow)) fun _ _ => rfl
  have hhigh := hrenders.countP (p := (· == .latchHigh)) fun _ _ => rfl
  have hbytes := hrenders.countP (p := OutEvent.isByte) fun _ _ => rfl
  have hall := hrenders.countP (p := fun _ => true) fun _ _ => rfl
  simp only [Nat.one_mul, List.countP_true] at hlow hhigh hall
  exact ⟨t, hrun, hend, hlow, hhigh, hbytes, hall⟩

end Sys2Proof.Machine
end

section
/-! PROOFS of the sequencer (spec/42_serial_sequencer.md R160 to R166, R170). A busy block out of reset carries out the row of
its phase and moves on (`microStep_of_row`); what one row does and reads then is what the step does and reads. A ready block
accepts the host's word. -/
namespace Sys2Proof.Machine

/-! ### The step of a busy block is the row of its phase (R160, R164) -/

section
variable {s t u : State}

/-- The row of the phase, then the row's next phase. -/
theorem microStep_of_row {p : BitVec 4} (hrst : s.rst = false) (hph : s.ph = p)
    (hrow : rowAction p.toNat (endResponse s) = some u) : microStep s = .next { u with ph := nextPhase p } := by
  subst hph
  have hbusy : s.ph ≠ 0 := by
    intro h0
    rw [h0] at hrow
    cases hrow
  obtain ⟨-, -, -, -, hph, -⟩ := rowAction_frame hrow
  rw [microStep, stepWith_of_busy acceptWord hrst hbusy, sequencerStep, hrow, ← endResponse_ph s, ← hph]
  rfl

/-- Everything the micro-step of a busy block can do. -/
theorem microStep_busy_cases (hrst : s.rst = false) (hph : s.ph ≠ 0) (h : microStep s = .next t) :
    ∃ u, rowAction s.ph.toNat (endResponse s) = some u ∧ t = advancePhase u := by
  rw [microStep, stepWith_of_busy acceptWord hrst hph] at h
  exact sequencerStep_cases h

/-- A busy block always steps to the next phase of the table, and stays out of reset. -/
theorem microStep_phase (hrst : s.rst = false) (hfirst : 1 ≤ s.ph.toNat) (hlast : s.ph.toNat ≤ 12) :
    ∃ t, microStep s = .next t ∧ t.rst = false ∧ t.ph = nextPhase s.ph := by
  obtain ⟨u, hrow⟩ := Option.isSome_iff_exists.mp ((rowAction_isSome_iff _ (endResponse s)).mpr ⟨hfirst, hlast⟩)
  obtain ⟨-, -, -, -, -, -, -, -, hu, -⟩ := rowAction_frame hrow
  exact ⟨_, microStep_of_row hrst rfl hrow, hu.trans hrst, rfl⟩

/-- Settles O36, row by row of the table. -/
theorem sequencerRows : Obligations.SequencerRows := fun _ hrst =>
  ⟨fun hp => ⟨_, microStep_of_row hrst hp rfl⟩, fun hp => microStep_of_row hrst hp rfl,
    fun hp => ⟨_, microStep_of_row hrst hp rfl⟩, fun hp => ⟨_, microStep_of_row hrst hp rfl⟩,
    fun hp => ⟨_, microStep_of_row hrst hp rfl⟩, fun hp => ⟨_, microStep_of_row hrst hp rfl⟩,
    fun hp => microStep_of_row hrst hp rfl, fun hp => ⟨_, microStep_of_row hrst hp rfl⟩,
    fun hp => ⟨_, microStep_of_row hrst hp rfl⟩, fun hp => ⟨_, microStep_of_row hrst hp rfl⟩,
    fun hp => ⟨_, microStep_of_row hrst hp rfl⟩, fun hp => ⟨_, microStep_of_row hrst hp rfl⟩⟩

/-! ### A busy block and the host's ports (R163, R164) -/

/-- Where no response stands, only the last row gives one (R160, R162). -/
theorem rowAction_responds_iff {n : Nat} (hresp : s.resp = none) (h : rowAction n s = some t) :
    t.resp ≠ none ↔ n = 12 := by
  unfold rowAction at h
  split at h <;> cases h <;> simp [hresp]

theorem not_cmdReady_of_busy (hph : s.ph ≠ 0) : s.cmdReady = false := by
  simpa [State.cmdReady, State.busy] using hph

/-- Settles O38, from what no row touches and which row responds. -/
theorem busyBlockHoldsCommands : Obligations.BusyBlockHoldsCommands := by
  intro s hrst hfirst hlast
  have hph : s.ph ≠ 0 := fun h0 => by simp [h0] at hfirst
  obtain ⟨t, hseq⟩ := sequencerStep_answers hfirst hlast
  obtain ⟨u, hrow, rfl⟩ := sequencerStep_cases hseq
  obtain ⟨hd, hdots, herr, hcause, -, -, -, -, -, hpending, -⟩ := rowAction_frame hrow
  refine ⟨not_cmdReady_of_busy hph, _, (stepWith_of_busy _ hrst hph).trans hseq, (stepWith_of_busy _ hrst hph).trans hseq,
    hpending, hd, hdots, herr, hcause, (rowAction_responds_iff rfl hrow).trans ?_⟩
  exact ⟨fun h => BitVec.eq_of_toNat_eq h, fun h => by rw [h]; rfl⟩

/-- No row reads the host's words (R164). -/
theorem rowAction_ignores_pending {n : Nat} (h : rowAction n s = some u) (ws : List CommandWord) :
    rowAction n { s with pending := ws } = some { u with pending := ws } := by
  unfold rowAction at h ⊢
  split at h <;> cases h <;> rfl

/-- Only the rows that build a word read the display registers (R164). -/
theorem rowAction_ignores_digits {n : Nat} (hA : n ≠ 2) (hB : n ≠ 7) (h : rowAction n s = some u) (d : Digits) (e : Bool) :
    rowAction n { s with d := d, dots := e } = some { u with d := d, dots := e } := by
  unfold rowAction at h ⊢
  split at h <;> cases h
  case h_2 => exact absurd rfl hA
  case h_7 => exact absurd rfl hB
  all_goals rfl

/-- Settles O39, from what the rows read. -/
theorem sequencerReadsNoInput : Obligations.SequencerReadsNoInput := by
  intro s t hrst hph h
  obtain ⟨u, hrow, rfl⟩ := microStep_busy_cases hrst hph h
  obtain ⟨-, -, -, -, huph, -⟩ := rowAction_frame hrow
  have hnext : advancePhase u = { u with ph := nextPhase s.ph } := by rw [advancePhase, huph, endResponse_ph]
  rw [hnext]
  refine ⟨fun ws => ?_, fun h2 h7 d e => ?_⟩
  · exact microStep_of_row (s := { s with pending := ws }) hrst rfl (rowAction_ignores_pending hrow ws)
  · have hA : s.ph.toNat ≠ 2 := fun h => h2 (BitVec.eq_of_toNat_eq h)
    have hB : s.ph.toNat ≠ 7 := fun h => h7 (BitVec.eq_of_toNat_eq h)
    exact microStep_of_row (s := { s with d := d, dots := e }) hrst rfl (rowAction_ignores_digits hA hB hrow d e)

end

/-! ### Twelve steps (R165) -/

/-- `n` steps after phase 1 the sequencer is in phase `n + 1`, the block still out of reset. -/
theorem microRun_phase {s : State} (hrst : s.rst = false) (hph : s.ph = 1) {n : Nat} (hn : n < 12) :
    ∃ t, microRun n s = .next t ∧ t.rst = false ∧ t.ph.toNat = n + 1 := by
  induction n with
  | zero => exact ⟨s, rfl, hrst, by simp [hph]⟩
  | succ n ih =>
    obtain ⟨t, hrun, ht, htph⟩ := ih (by omega)
    obtain ⟨u, hstep, hu, huph⟩ := microStep_phase ht (by omega) (by omega)
    refine ⟨u, (microRun_add_of_next hrun 1).trans (runWith_one hstep), hu, ?_⟩
    rw [huph, nextPhase_toNat (by omega), htph]

/-- Settles O40: the phases on the way, and the end of the twelve rows. -/
theorem renderTakesTwelveSteps : Obligations.RenderTakesTwelveSteps := by
  intro s hrst hph
  refine ⟨fun n hn => ?_, _, microRun_renderRows hrst hph, rfl⟩
  obtain ⟨t, hrun, -, ht⟩ := microRun_phase hrst hph hn
  exact ⟨t, hrun, ht⟩

/-! ### The ready block (R162, R170) -/

/-- Settles O10: the block takes the word and runs its command. -/
theorem stepRunsTheDecodedCommand : Obligations.StepRunsTheDecodedCommand :=
  fun _ _ _ _ hr hp hd => step_of_command hr hp hd

/-- Settles O37: a word that is no `RENDER` is the command level's step, and `RENDER` starts the sequencer. -/
theorem acceptingACommand : Obligations.AcceptingACommand := by
  intro s w rest hr hp
  have hsame := microStep_of_not_render hr hp
  refine ⟨fun p v hd => hsame (by simp [hd]), fun e hd => hsame (by simp [hd]), fun why hd => ?_,
    microStep_of_render hr hp, fun hd => ?_⟩
  · exact (hsame (by simp [hd])).trans (step_of_illegal hr hp hd)
  · obtain ⟨t, hstep, ⟨-, hph⟩, hpending⟩ := step_of_ready hr hp
    exact ⟨t, (hsame hd).trans hstep, hph, hpending⟩

/-- Settles O41, from the composition of the twelve rows. -/
theorem microRenderRefinesRender : Obligations.MicroRenderRefinesRender := by
  intro s rest hr hp
  have hd : decode 0x3000#16 = .command .render := by decide
  obtain ⟨t, hexec⟩ := exec_answers .render (takeCommand rest s)
  have hstep : step s = .next t := (step_of_command hr hp hd).trans hexec
  obtain ⟨-, hph, -⟩ := exec_frame hexec
  exact ⟨t, hexec, hstep, hph.trans hr.2, microRun_of_render hr hp hd hstep⟩

end Sys2Proof.Machine
end

section
/-! PROOFS of the receiver (spec/42_serial_sequencer.md R175, R176). A byte is its eight bits, and every byte of a render is sent
with the latch line low, so that the latch's sense does not matter; the eight bytes of a render fill the shift register, which
the last event copies to the outputs. -/
namespace Sys2Proof.Machine

/-! ### One event (R175) -/

/-- A byte moves the register up by eight bits and enters at its low end (R175). -/
theorem shiftIn_byte (sr : Frame) (b : Byte) : shiftIn sr (.byte b) = sr <<< 8 ||| b.zeroExtend 64 := by
  apply BitVec.eq_of_getLsbD_eq
  intro i hi
  rw [shiftIn_byte_getLsbD sr b hi, BitVec.getLsbD_or, BitVec.getLsbD_shiftLeft, BitVec.getLsbD_setWidth]
  by_cases hlow : i < 8
  · simp [hlow, hi]
  · simp [hlow, hi, BitVec.getLsbD_of_ge b i (Nat.not_lt.mp hlow)]

/-- A byte is heard as its eight bits, bit 7 first (R175). -/
theorem shiftIn_byte_eq_bits (sr : Frame) (b : Byte) :
    shiftIn sr (.byte b) = ((byteBits b).map OutEvent.bit).foldl shiftIn sr := rfl

/-- While the line is low a receiver only shifts. -/
theorem onEvent_byte_low (sense : LatchSense) (b : Byte) (r : Receiver) :
    r.onEvent sense false (.byte b) = { r with sr := shiftIn r.sr (.byte b) } := by
  ext1
  · exact onEvent_sr sense false _ r
  · exact onEvent_byte_low_q sense b r

/-- While the line is low, bits only shift: the outputs stay. -/
theorem listen_bits_low (sense : LatchSense) (xs : List Bool) (r : Receiver) :
    Receiver.listen sense false (xs.map .bit) r = { r with sr := (xs.map OutEvent.bit).foldl shiftIn r.sr } := by
  induction xs generalizing r with
  | nil => rfl
  | cons x xs ih =>
    rw [List.map_cons, Receiver.listen, levelAfter, ih, Receiver.onEvent, follow_low]
    rfl

/-- Settles O47, event by event. -/
theorem receiverSteps : Obligations.ReceiverSteps := by
  intro sense r
  refine ⟨fun x => follow_low sense _, fun b => ?_, fun b => ?_, fun l => ⟨rfl, rfl⟩⟩
  · rw [onEvent_byte_low, shiftIn_byte]
  · rw [onEvent_byte_low, shiftIn_byte_eq_bits]
    exact (listen_bits_low sense (byteBits b) r).symm

/-! ### The latch's sense (R175) -/

/-- The event may occur with the line at `l`: bytes and bits are sent while it is low only. -/
def OutEvent.SentLow (l : Bool) : OutEvent → Prop
  | .latchLow => True
  | .latchHigh => True
  | .byte _ => l = false
  | .bit _ => l = false

/-- Every byte and bit among the events is sent while the line, which starts at `l`, is low. -/
def AllSentLow : Bool → List OutEvent → Prop
  | _, [] => True
  | l, e :: es => e.SentLow l ∧ AllSentLow (levelAfter l e) es

/-- What is heard while the line is low is heard alike by both senses. -/
theorem onEvent_sense {l : Bool} {e : OutEvent} (h : e.SentLow l) (sense sense' : LatchSense) (r : Receiver) :
    r.onEvent sense (levelAfter l e) e = r.onEvent sense' (levelAfter l e) e := by
  cases e with
  | latchLow => rfl
  | latchHigh => rfl
  | byte b => cases h; simp [Receiver.onEvent, levelAfter]
  | bit x => cases h; simp [Receiver.onEvent, levelAfter]

theorem listen_sense {l : Bool} {es : List OutEvent} (h : AllSentLow l es) (sense sense' : LatchSense) (r : Receiver) :
    Receiver.listen sense l es r = Receiver.listen sense' l es r := by
  induction es generalizing l r with
  | nil => rfl
  | cons e es ih =>
    obtain ⟨he, hes⟩ := h
    rw [Receiver.listen, Receiver.listen, onEvent_sense he sense sense', ih hes]

theorem AllSentLow.take {l : Bool} {es : List OutEvent} (h : AllSentLow l es) (n : Nat) : AllSentLow l (es.take n) := by
  induction es generalizing l n with
  | nil => simpa using h
  | cons e es ih =>
    cases n with
    | zero => trivial
    | succ n =>
      obtain ⟨he, hes⟩ := h
      exact ⟨he, ih hes n⟩

theorem AllSentLow.append {l : Bool} {es fs : List OutEvent} (hes : AllSentLow l es) (hfs : ∀ l, AllSentLow l fs) :
    AllSentLow l (es ++ fs) := by
  induction es generalizing l with
  | nil => exact hfs l
  | cons e es ih =>
    obtain ⟨he, hes⟩ := hes
    exact ⟨he, ih hes⟩

/-- A render lowers the line before its first byte and raises it after its last (R136). -/
theorem frameEvents_allSentLow (wa wb : DisplayWord) (l : Bool) : AllSentLow l (frameEvents wa wb) := by
  simp [frameEvents, AllSentLow, OutEvent.SentLow, levelAfter]

theorem renders_allSentLow (words : List (DisplayWord × DisplayWord)) :
    ∀ l, AllSentLow l (words.flatMap fun x => frameEvents x.1 x.2) := by
  induction words with
  | nil => exact fun _ => trivial
  | cons x words ih => exact fun l => (frameEvents_allSentLow x.1 x.2 l).append ih

/-- Settles O48: a receiver that listens to renders is the same for both senses at every moment. -/
theorem latchSensesAgree : Obligations.LatchSensesAgree := by
  intro words l r n
  have hsame := listen_sense ((renders_allSentLow words l).take n) .risingEdge .levelHigh r
  exact ⟨congrArg Receiver.sr hsame, fun _ => congrArg Receiver.q hsame⟩

/-! ### What a render leaves in the receiver (R176) -/

/-- A render puts its frame into both registers of the receiver, whatever they held. -/
theorem render_rx (s : State) : (renderClose (renderMiddle (renderOpen s))).rx =
    { sr := frameOf (wordA s.d s.dots) (wordB s.d s.dots), q := frameOf (wordA s.d s.dots) (wordB s.d s.dots) } := by
  have hq := render_rx_q s
  rw [renderClose_rx] at hq ⊢
  exact Receiver.ext hq hq

/-- Settles O49, from the receiver's contents after a render and the frame of a legal display state. -/
theorem renderDefinesTheDisplay : Obligations.RenderDefinesTheDisplay := by
  intro s t h
  rw [exec_render_eq, render_rx] at h
  cases h
  exact ⟨rfl, rfl, fun hd => frameOf_shown hd s.dots⟩

/-- No row before the last changes the outputs, the line being low after the first (R175, R176). -/
theorem rowAction_holds_outputs {n : Nat} {s t : State} (hlow : 2 ≤ n → s.latch = false) (hlast : n ≠ 12)
    (h : rowAction n s = some t) : t.rx.q = s.rx.q := by
  unfold rowAction at h
  split at h <;> cases h
  case h_12 => exact absurd rfl hlast
  case h_1 | h_2 | h_7 => rfl
  all_goals rw [sendByte_rx, hlow (by decide), onEvent_byte_low_q]

/-- Settles O50, from what the invariant says of the latch line, the words and the shift register inside a render. -/
theorem displayChangesOnlyAtLatchHigh : Obligations.DisplayChangesOnlyAtLatchHigh := by
  intro s t hinv hrst hph h
  obtain ⟨hlegal, shown, hshows⟩ := hinv
  obtain ⟨u, hrow, rfl⟩ := microStep_busy_cases hrst hph h
  refine ⟨fun hp => ?_, fun hp => ?_⟩
  · have hlast : s.ph.toNat ≠ 12 := fun h12 => hp (BitVec.eq_of_toNat_eq h12)
    exact rowAction_holds_outputs (s := endResponse s) (t := u) hshows.latchLow hlast hrow
  · rw [hp] at hrow
    cases hrow
    have hq : s.rx.sr = frameOf s.wa s.wb := hshows.sr_of_last hp
    have hwa : s.wa = wordA s.d s.dots := hshows.builtA (by simp [hp])
    have hwb : s.wb = wordB s.d s.dots := hshows.builtB (by simp [hp])
    refine ⟨hq, ?_⟩
    change Shown s.rx.sr s.d s.dots
    rw [hq, hwa, hwb]
    exact frameOf_shown hlegal.digits s.dots

end Sys2Proof.Machine
end

section
/-! PROOFS of the bit level (spec/42_serial_sequencer.md R171 to R173). Eight rounds of the loop send a byte (`sendShiftByte`), so
that a render at the bit level has a closed form (`bitRender_eq`). The line discipline is a condition on the state before each
line action (`LineAction.Disciplined`) that holds all along a render (`render_disciplined`): from it follow the rules of R172 and
that a receiver which samples the lines hears the events. -/
namespace Sys2Proof.Machine

/-! ### A byte and a render at the bit level (R171) -/

section
variable (s : State)

@[simp] theorem sendShiftByte_latch : (sendShiftByte s).latch = s.latch := rfl
@[simp] theorem sendShiftByte_err : (sendShiftByte s).err = s.err := rfl
@[simp] theorem sendShiftByte_cause : (sendShiftByte s).cause = s.cause := rfl
@[simp] theorem sendShiftByte_ph : (sendShiftByte s).ph = s.ph := rfl
@[simp] theorem sendShiftByte_shb : (sendShiftByte s).shb = 0 := rfl
@[simp] theorem sendShiftByte_bc : (sendShiftByte s).bc = s.bc + 8 := rfl
@[simp] theorem sendShiftByte_sdo : (sendShiftByte s).sdo = s.shb.getLsbD 0 := rfl
@[simp] theorem sendShiftByte_sck : (sendShiftByte s).sck = false := rfl
@[simp] theorem sendShiftByte_rst : (sendShiftByte s).rst = s.rst := rfl
@[simp] theorem sendShiftByte_pending : (sendShiftByte s).pending = s.pending := rfl
@[simp] theorem sendShiftByte_draws : (sendShiftByte s).draws = s.draws := rfl

/-- The receiver hears the eight bits as the byte. -/
@[simp] theorem sendShiftByte_rx_sr : (sendShiftByte s).rx.sr = shiftIn s.rx.sr (.byte s.shb) := by
  rw [sendShiftByte, listen_sr, shiftIn_byte_eq_bits]

/-- Loading a byte and sending its bits, most significant first. -/
theorem sendShiftByte_loadByte (b : Byte) : ∃ x, sendShiftByte (loadByte b s) = { s with
    shb := 0, bc := 8, sck := false, sdo := b.getLsbD 0,
    out := s.out ++ ((List.range 8).map fun i => .bit (b.getLsbD (7 - i))), rx := x } :=
  ⟨_, rfl⟩

/-- The 64 bits of a render fill the receiver with the frame (R176). -/
theorem bitRender_rx : (bitRender s).rx =
    { sr := frameOf (wordA s.d s.dots) (wordB s.d s.dots), q := frameOf (wordA s.d s.dots) (wordB s.d s.dots) } := by
  rw [← shiftIn_frame s.rx.sr]
  simp [bitRender, renderLineActions, List.range', rowLineActions, lineAction, Receiver.commit, wordEvents]

/-- Everything that a render at the bit level changes (R171, R173). -/
theorem bitRender_eq : bitRender s = { s with
    wa := wordA s.d s.dots
    wb := wordB s.d s.dots
    latch := true
    out := s.out ++ (OutEvent.latchLow :: (bitsSent (frameOf (wordA s.d s.dots) (wordB s.d s.dots))).map OutEvent.bit ++
      [OutEvent.latchHigh])
    ph := 0
    shb := 0
    bc := 8
    sdo := (wordB s.d s.dots).getLsbD 0
    sck := false
    resp := some .ok
    rx := (renderClose (renderMiddle (renderOpen s))).rx } := by
  rw [render_rx]
  ext1
  case out => exact bitRender_out s
  case rx => exact bitRender_rx s
  all_goals simp [bitRender, renderLineActions, List.range', rowLineActions, lineAction, byteOf, nextPhase]

end

/-- Settles O43: either word's byte, loaded and sent. -/
theorem serialiserSendsEightBits : Obligations.SerialiserSendsEightBits := by
  intro s k
  simp only [lineActions_cons, lineActions_eightRounds, lineAction]
  exact ⟨sendShiftByte_loadByte s (byteOf s.wa k), sendShiftByte_loadByte s (byteOf s.wb k)⟩

/-- Settles O44: the closed forms of a render at the two levels. -/
theorem bitRenderRefinesRender : Obligations.BitRenderRefinesRender := by
  intro s hph
  refine ⟨_, exec_render_eq s, ?_⟩
  have hsdo : (frameOf (wordA s.d s.dots) (wordB s.d s.dots)).getLsbD 0 = (wordB s.d s.dots).getLsbD 0 :=
    frameOf_getLsbD _ _ 0
  simp only [bitRender_eq, bitsSent_frame, List.map_map, Function.comp_def, hsdo, hph]

/-! ### What every line action meets during a render (R172)

A receiver that samples the lines is compared with the events too, so the condition includes that a level-high receiver has
nothing to follow when the latch line is high. -/

/-- The discipline of the lines before an action: the clock is low when the latch line or `SDO` may move and when the clock rises,
the latch line is low while bits are sent, and the receiver has settled when an action leaves the lines to themselves. -/
def LineAction.Disciplined (s : State) : LineAction → Prop
  | .lowerLatch => s.sck = false
  | .present | .clockHigh | .raiseLatch => s.sck = false ∧ s.latch = false
  | .buildA | .buildB | .loadA _ | .loadB _ | .clockLow | .advance => s.latch = true → s.rx.q = s.rx.sr

/-- Every action of a list meets the discipline when its turn comes. -/
def AllDisciplined : List LineAction → State → Prop
  | [], _ => True
  | a :: as, s => a.Disciplined s ∧ AllDisciplined as (lineAction a s)

theorem allDisciplined_append {as bs : List LineAction} {s : State} (has : AllDisciplined as s)
    (hbs : AllDisciplined bs (lineActions as s)) : AllDisciplined (as ++ bs) s := by
  induction as generalizing s with
  | nil => exact hbs
  | cons a as ih =>
    obtain ⟨ha, has⟩ := has
    exact ⟨ha, ih has hbs⟩

theorem AllDisciplined.get {as : List LineAction} {s : State} (h : AllDisciplined as s) {n : Nat} (hn : n < as.length) :
    as[n].Disciplined (lineActions (as.take n) s) := by
  induction as generalizing s n with
  | nil => exact absurd hn (Nat.not_lt_zero n)
  | cons a as ih =>
    obtain ⟨ha, has⟩ := h
    cases n with
    | zero => exact ha
    | succ n => exact ih has (Nat.lt_of_succ_lt_succ hn)

/-- Inside a render, between two bytes. -/
structure BusOpen (s : State) : Prop where
  latch : s.latch = false
  sck : s.sck = false

/-- A stretch of line actions inside a render: the discipline is met all along, and the bus is open again at the end. -/
def KeepsBusOpen (as : List LineAction) : Prop :=
  ∀ s, BusOpen s → AllDisciplined as s ∧ BusOpen (lineActions as s)

theorem keepsBusOpen_nil : KeepsBusOpen [] := fun _ hs => ⟨trivial, hs⟩

theorem keepsBusOpen_append {as bs : List LineAction} (has : KeepsBusOpen as) (hbs : KeepsBusOpen bs) :
    KeepsBusOpen (as ++ bs) := by
  intro s hs
  obtain ⟨hdisc, hopen⟩ := has s hs
  obtain ⟨hdisc', hopen'⟩ := hbs _ hopen
  exact ⟨allDisciplined_append hdisc hdisc', by rwa [lineActions_append]⟩

theorem keepsBusOpen_flatMap {f : Nat → List LineAction} {ns : List Nat} (h : ∀ n ∈ ns, KeepsBusOpen (f n)) :
    KeepsBusOpen (ns.flatMap f) := by
  induction ns with
  | nil => exact keepsBusOpen_nil
  | cons n ns ih =>
    obtain ⟨hn, hns⟩ := List.forall_mem_cons.mp h
    exact keepsBusOpen_append hn (ih hns)

/-- The actions that leave the three lines as they are. -/
def LineAction.leavesLines : LineAction → Bool
  | .lowerLatch | .present | .clockHigh | .clockLow | .raiseLatch => false
  | .buildA | .buildB | .loadA _ | .loadB _ | .advance => true

theorem keepsBusOpen_cons {a : LineAction} {as : List LineAction} (ha : a.leavesLines = true) (has : KeepsBusOpen as) :
    KeepsBusOpen (a :: as) := by
  intro s hs
  have hone : a.Disciplined s ∧ BusOpen (lineAction a s) := by
    cases a with
    | buildA | buildB | loadA _ | loadB _ | advance =>
      exact ⟨fun hhigh => absurd (hs.latch.symm.trans hhigh) Bool.false_ne_true, hs.latch, hs.sck⟩
    | lowerLatch | present | clockHigh | clockLow | raiseLatch => cases ha
  obtain ⟨hdisc, hopen⟩ := hone
  obtain ⟨hdisc', hopen'⟩ := has _ hopen
  exact ⟨⟨hdisc, hdisc'⟩, hopen'⟩

theorem keepsBusOpen_bitRound : KeepsBusOpen bitRound := by
  rintro s ⟨hlatch, hsck⟩
  refine ⟨?_, hlatch, rfl⟩
  simp [bitRound, AllDisciplined, LineAction.Disciplined, lineAction, hlatch, hsck]

/-- A row that sends a byte: the load, the eight rounds, and the phase's move. -/
theorem keepsBusOpen_byteRow {a : LineAction} (ha : a.leavesLines = true) :
    KeepsBusOpen (a :: eightRounds ++ [.advance]) := by
  have hrounds : KeepsBusOpen eightRounds := by
    unfold eightRounds
    repeat refine keepsBusOpen_append ?_ keepsBusOpen_bitRound
    exact keepsBusOpen_bitRound
  exact keepsBusOpen_append (keepsBusOpen_cons ha hrounds) (keepsBusOpen_cons rfl keepsBusOpen_nil)

/-- A row that builds a word. -/
theorem keepsBusOpen_buildRow {a : LineAction} (ha : a.leavesLines = true) : KeepsBusOpen [a, .advance] :=
  keepsBusOpen_cons ha (keepsBusOpen_cons rfl keepsBusOpen_nil)

/-- The rows of R160 between the first and the last keep the bus open. -/
theorem keepsBusOpen_row {ph : Nat} (h : ph ∈ List.range' 2 10) : KeepsBusOpen (rowLineActions ph) := by
  obtain ⟨hfirst, hlast⟩ := List.mem_range'_1.mp h
  match ph with
  | 2 | 7 => exact keepsBusOpen_buildRow rfl
  | 3 | 4 | 5 | 6 | 8 | 9 | 10 | 11 => exact keepsBusOpen_byteRow rfl
  | 0 | 1 | _ + 12 => omega

/-- The first row opens the bus, the last one closes it. -/
theorem renderLineActions_eq : renderLineActions =
    [.lowerLatch, .advance] ++ (List.range' 2 10).flatMap rowLineActions ++ [.raiseLatch, .advance] := by
  have hrows : List.range' 1 12 = [1] ++ List.range' 2 10 ++ [12] := rfl
  rw [renderLineActions, hrows, List.flatMap_append, List.flatMap_append]
  rfl

/-- A render that starts with the clock low meets the discipline before each of its line actions (R172). -/
theorem render_disciplined {s : State} (hsck : s.sck = false) : AllDisciplined renderLineActions (startRender s) := by
  have hopen : BusOpen (lineActions [.lowerLatch, .advance] (startRender s)) := ⟨rfl, hsck⟩
  obtain ⟨hmiddle, hlatch, hlow⟩ := keepsBusOpen_flatMap (fun _ => keepsBusOpen_row) _ hopen
  rw [renderLineActions_eq]
  refine allDisciplined_append (allDisciplined_append ?_ hmiddle) ?_
  · exact ⟨hsck, fun h => absurd h Bool.false_ne_true, trivial⟩
  · rw [lineActions_append]
    exact ⟨⟨hlow, hlatch⟩, fun _ => rfl, trivial⟩

/-! ### The rules of R172 -/

section
variable {a : LineAction} {s : State} (h : a.Disciplined s)
include h

/-- The clock is low on both sides of a change of the latch line (R172 a). -/
theorem clockLow_of_latch_changes (hne : s.latch ≠ (lineAction a s).latch) :
    s.sck = false ∧ (lineAction a s).sck = false := by
  cases a with
  | lowerLatch => exact ⟨h, h⟩
  | raiseLatch =>
    obtain ⟨hsck, -⟩ := h
    exact ⟨hsck, hsck⟩
  | buildA | buildB | loadA _ | loadB _ | present | clockHigh | clockLow | advance => exact absurd rfl hne

/-- The clock is low on both sides of a change of `SDO` (R172 b). -/
theorem clockLow_of_sdo_changes (hne : s.sdo ≠ (lineAction a s).sdo) :
    s.sck = false ∧ (lineAction a s).sck = false := by
  cases a with
  | present =>
    obtain ⟨hsck, -⟩ := h
    exact ⟨hsck, hsck⟩
  | lowerLatch | raiseLatch | buildA | buildB | loadA _ | loadB _ | clockHigh | clockLow | advance =>
    exact absurd rfl hne

/-- The clock rises at `clockHigh` and at no other action. -/
theorem clockRises_iff : (!s.sck && (lineAction a s).sck) = decide (a = .clockHigh) := by
  cases a with
  | clockHigh =>
    obtain ⟨hsck, -⟩ := h
    simp [lineAction, hsck]
  | lowerLatch | raiseLatch | present | buildA | buildB | loadA _ | loadB _ | clockLow | advance => simp [lineAction]

/-- The clock rises while the latch line is low (R172 c). -/
theorem latchLow_of_clock_rises (hrise : (!s.sck && (lineAction a s).sck) = true) :
    s.latch = false ∧ (lineAction a s).latch = false := by
  rw [clockRises_iff h, decide_eq_true_iff] at hrise
  subst hrise
  obtain ⟨-, hlatch⟩ := h
  exact ⟨hlatch, hlatch⟩

end

section
variable {s : State} {n : Nat}

theorem bitRenderPrefix_succ (hn : n < renderLineActions.length) :
    bitRenderPrefix (n + 1) s = lineAction renderLineActions[n] (bitRenderPrefix n s) := by
  rw [bitRenderPrefix, List.take_succ_eq_append_getElem hn, lineActions_append]
  rfl

theorem bitRenderPrefix_disciplined (hsck : s.sck = false) (hn : n < renderLineActions.length) :
    renderLineActions[n].Disciplined (bitRenderPrefix n s) :=
  (render_disciplined hsck).get hn

end

/-- Counting along the indices of a list is counting its elements. -/
theorem countP_range_length {α : Type} {p : α → Bool} {q : Nat → Bool} (as : List α)
    (h : ∀ n (hn : n < as.length), q n = p as[n]) : (List.range as.length).countP q = as.countP p := by
  have hmap : (List.range as.length).map q = as.map p := by
    apply List.ext_getElem
    · simp
    · intro n _ hn
      simpa using h n (by simpa using hn)
  simpa [List.countP_map, Function.comp_def] using congrArg (List.countP id) hmap

theorem renderLineActions_countP_clockHigh : renderLineActions.countP (fun a => decide (a = .clockHigh)) = 64 := by
  have hbyte : eightRounds.countP (fun a => decide (a = .clockHigh)) = 8 := by decide
  simp [renderLineActions, List.range', rowLineActions, hbyte]

/-- Settles O45: the rules follow from the discipline at each action; the clock rises at the 64 `clockHigh`s; the end is that of
the closed form of the render. -/
theorem lineDiscipline : Obligations.LineDiscipline := by
  intro s hsck at' rises
  have hdisc (n : Nat) (hn : n < renderLineActions.length) : renderLineActions[n].Disciplined (at' n) :=
    bitRenderPrefix_disciplined hsck hn
  have hnext (n : Nat) (hn : n < renderLineActions.length) : at' (n + 1) = lineAction renderLineActions[n] (at' n) :=
    bitRenderPrefix_succ hn
  refine ⟨fun n hn => ?_, ?_, ?_, ?_⟩
  · simp only [rises, hnext n hn]
    exact ⟨clockLow_of_latch_changes (hdisc n hn), clockLow_of_sdo_changes (hdisc n hn),
      latchLow_of_clock_rises (hdisc n hn)⟩
  · rw [← renderLineActions_countP_clockHigh]
    refine countP_range_length renderLineActions fun n hn => ?_
    simp only [rises, hnext n hn]
    exact clockRises_iff (hdisc n hn)
  · rw [bitRender_eq]
  · rw [bitRender_eq]

/-! ### A receiver that samples the lines (R173, R175) -/

/-- A level-high receiver that has settled has nothing to follow. -/
theorem follow_of_settled (sense : LatchSense) {l : Bool} {r : Receiver} (h : l = true → r.q = r.sr) :
    r.follow sense l = r := by
  unfold Receiver.follow
  split
  next hhigh =>
    obtain ⟨hl, -⟩ := hhigh
    exact Receiver.ext rfl (h hl).symm
  next => rfl

/-- One line action is heard on the lines as its event (R173). -/
theorem onLines_of_disciplined {a : LineAction} {s : State} (h : a.Disciplined s) :
    s.rx.onLines Config.latchSense s.lines (lineAction a s).lines = (lineAction a s).rx := by
  cases a with
  | lowerLatch => simp [Receiver.onLines, State.lines, lineAction]
  | present =>
    obtain ⟨hsck, hlatch⟩ := h
    simp [Receiver.onLines, State.lines, lineAction, hsck, hlatch]
  | clockHigh =>
    obtain ⟨hsck, hlatch⟩ := h
    simp [Receiver.onLines, State.lines, lineAction, Receiver.onEvent, hsck, hlatch]
  | raiseLatch =>
    obtain ⟨hsck, hlatch⟩ := h
    have hsettled := follow_of_settled Config.latchSense (l := true) (r := s.rx.commit) fun _ => rfl
    simp [Receiver.onLines, State.lines, lineAction, hsck, hlatch, hsettled]
  | buildA | buildB | loadA _ | loadB _ | clockLow | advance =>
    simp [Receiver.onLines, State.lines, lineAction, follow_of_settled Config.latchSense h]

/-- Watching the lines during disciplined actions is being told their events. -/
theorem watch_of_disciplined {as : List LineAction} {s : State} (h : AllDisciplined as s) :
    Receiver.watch Config.latchSense s.lines (lineLevels as s) s.rx = (lineActions as s).rx := by
  induction as generalizing s with
  | nil => rfl
  | cons a as ih =>
    obtain ⟨ha, has⟩ := h
    rw [lineLevels, Receiver.watch, onLines_of_disciplined ha, ih has, lineActions_cons]

/-- Settles O46: the render's actions are disciplined. -/
theorem sampledLinesCarryTheEvents : Obligations.SampledLinesCarryTheEvents := by
  intro s hsck
  rw [bitRender]
  exact watch_of_disciplined (s := startRender s) (render_disciplined hsck)

end Sys2Proof.Machine
end

section
/-! PROOFS of the exception (spec/60_exceptions.md R190 to R197). A rejection writes `ERR`, `CAUSE` and the response, and no
command, row or reset reads them; nor does a command read the host's words left. So what a word does is the same whatever the
record and the rest of the program, and a rejected word can be left out. -/
namespace Sys2Proof.Machine

/-! ### Over a run `ERR` tells whether a response was a rejection (R196) -/

section
variable {s t : State}

/-- No step asserts the reset input, which is driven from outside (R161, R220). -/
theorem step_stays_out_of_reset (hrst : s.rst = false) (h : step s = .next t) : t.rst = false := by
  obtain ⟨hreset, -⟩ | ⟨-, -, hhost⟩ | ⟨-, -, hseq⟩ := stepWith_cases h
  · simp [hrst] at hreset
  · obtain ⟨-, rfl⟩ | ⟨w, rest, -, hword⟩ := hostStep_cases hhost
    · exact hrst
    · exact (runWord_frame hword).1.trans hrst
  · obtain ⟨u, hrow, rfl⟩ := sequencerStep_cases hseq
    obtain ⟨-, -, -, -, -, -, -, -, hu, -⟩ := rowAction_frame hrow
    exact hu.trans hrst

/-- A step out of reset leaves `ERR` 0 exactly when it was 0 and the step answers no rejection (R29, R194). -/
theorem noRejection_step_iff (hrst : s.rst = false) (h : step s = .next t) :
    t.NoRejection ↔ s.NoRejection ∧ ∀ r ∈ t.resp.toList, r = .ok := by
  unfold State.NoRejection
  obtain ⟨herr, -, hresp⟩ | ⟨c, hresp, herr, -⟩ := (onlyRejectionsWriteErrAndCause s t (.inl h)).1 hrst
  · have hok : ∀ r ∈ t.resp.toList, r = .ok := by
      intro r hr
      cases r with
      | ok => rfl
      | invalidArg c => exact absurd (Option.mem_toList.mp hr) (hresp c)
    simp only [herr, iff_self_and]
    exact fun _ => hok
  · simp [hresp, herr]

theorem run_succ_of_step (n : Nat) (h : step s = .next t) : run (n + 1) s = run n t := by
  rw [run, runWith, h]
  rfl

theorem run_succ_cases {n : Nat} (h : run (n + 1) s = .next t) : ∃ u, step s = .next u ∧ run n u = .next t := by
  unfold run runWith at h
  split at h
  · exact ⟨_, ‹_›, h⟩
  · cases h
  · cases h

theorem responses_succ (n : Nat) (h : step s = .next t) : responses (n + 1) s = t.resp.toList ++ responses n t := by
  rw [responses, h]

theorem noRejection_run_iff {n : Nat} (hrst : s.rst = false) (h : run n s = .next t) :
    t.NoRejection ↔ s.NoRejection ∧ ∀ r ∈ responses n s, r = .ok := by
  induction n generalizing s with
  | zero =>
    cases h
    simp [responses]
  | succ n ih =>
    obtain ⟨u, hstep, hrun⟩ := run_succ_cases h
    rw [ih (step_stays_out_of_reset hrst hstep) hrun, noRejection_step_iff hrst hstep, responses_succ n hstep,
      List.forall_mem_append, and_assoc]

end

/-- Settles O32, step by step along the run. -/
theorem noErrorExactlyWhenAllResponsesOk : Obligations.NoErrorExactlyWhenAllResponsesOk := by
  intro n s t hrst hclean hrun
  rw [noRejection_run_iff hrst hrun, and_iff_right hclean]

/-! ### What a word does whatever the record and the words left -/

/-- `s` with another record of rejections, and with other words left to the host. -/
def withRecordAndWords (err : Bool) (cause : BitVec 2) (resp : Option Response) (ws : List CommandWord) (s : State) : State :=
  { s with err := err, cause := cause, resp := resp, pending := ws }

@[simp] theorem withRecordAndWords_ph (err : Bool) (cause : BitVec 2) (resp : Option Response) (ws : List CommandWord)
    (s : State) : (withRecordAndWords err cause resp ws s).ph = s.ph := rfl

@[simp] theorem endResponse_withRecordAndWords (err : Bool) (cause : BitVec 2) (resp : Option Response)
    (ws : List CommandWord) (s : State) :
    endResponse (withRecordAndWords err cause resp ws s) = withRecordAndWords err cause none ws (endResponse s) := rfl

/-- `f` reads neither the record of rejections nor the host's words: with others it answers alike, but for the record. -/
def IgnoresRecordAndWords (f : State → Answer) : Prop :=
  ∀ (s s' : State) (e : Bool) (c : BitVec 2) (r : Option Response) (ws : List CommandWord), f s = .next s' →
    ∃ e' c' r', f (withRecordAndWords e c r ws s) = .next (withRecordAndWords e' c' r' ws s')

/-- Such an `f` leaves the words as they are: given the same words again, it answers the same. -/
theorem IgnoresRecordAndWords.keeps_pending {f : State → Answer} (hf : IgnoresRecordAndWords f) {s s' : State}
    (h : f s = .next s') : s'.pending = s.pending := by
  obtain ⟨e', c', r', hsame⟩ := hf s s' s.err s.cause s.resp s.pending h
  injection h.symm.trans hsame with heq
  rw [heq]
  rfl

/-- With another record only, such an `f` answers alike, but for the record. -/
theorem IgnoresRecordAndWords.ignores_record {f : State → Answer} (hf : IgnoresRecordAndWords f) {s s' : State}
    (h : f s = .next s') (e : Bool) (c : BitVec 2) (r : Option Response) :
    ∃ t', f (withRecordAndWords e c r s.pending s) = .next t' ∧ SameButRejection s' t' := by
  obtain ⟨e', c', r', hf'⟩ := hf s s' e c r s.pending h
  exact ⟨_, hf', hf.keeps_pending h ▸ rfl⟩

/-- A total update ignores what it carries along or overwrites. -/
theorem ignores_of_update {g : State → State} (hg : ∀ e c r ws s, ∃ e' c' r',
    g (withRecordAndWords e c r ws s) = withRecordAndWords e' c' r' ws (g s)) :
    IgnoresRecordAndWords fun s => .next (g s) := by
  intro s s' e c r ws h
  cases h
  obtain ⟨e', c', r', heq⟩ := hg e c r ws s
  exact ⟨e', c', r', congrArg _ heq⟩

theorem reject_ignores (c : Cause) : IgnoresRecordAndWords fun s => .next (reject c s) :=
  ignores_of_update fun _ _ _ _ _ => ⟨_, _, _, rfl⟩

/-- `SETDIGIT` does the same in every state: one rejection, or one write (R110). -/
theorem exec_setdigit_eq (p v : Nat) : (∃ c, exec (.setdigit p v) = fun s => .next (reject c s)) ∨
    ∃ q x, exec (.setdigit p v) = fun s => .next (respond .ok (writeDigit q x s)) := by
  cases hp : positionOf p with
  | none => exact .inl ⟨.badPosition, by funext s; simp only [exec, execSetdigit, hp]⟩
  | some q =>
    cases hv : digitOf v with
    | none => exact .inl ⟨.badValue, by funext s; simp only [exec, execSetdigit, hp, hv]⟩
    | some x => exact .inr ⟨q, x, by funext s; simp only [exec, execSetdigit, hp, hv]⟩

theorem exec_ignores (i : Instr) : IgnoresRecordAndWords (exec i) := by
  cases i with
  | setdigit p v =>
    obtain ⟨c, heq⟩ | ⟨q, x, heq⟩ := exec_setdigit_eq p v
    · exact heq ▸ reject_ignores c
    · exact heq ▸ ignores_of_update fun _ _ _ _ _ => ⟨_, _, _, rfl⟩
  | setdots e => exact ignores_of_update fun _ _ _ _ _ => ⟨_, _, _, rfl⟩
  | render => exact ignores_of_update fun _ _ _ _ _ => ⟨_, _, _, rfl⟩

theorem runWord_ignores (w : CommandWord) : IgnoresRecordAndWords (runWord w) := by
  cases hd : decode w with
  | command i => exact funext (runWord_of_command hd) ▸ exec_ignores i
  | illegal why => exact funext (runWord_of_illegal hd) ▸ reject_ignores .badCommand

theorem acceptCommand_ignores (i : Instr) : IgnoresRecordAndWords (acceptCommand i) := by
  cases i with
  | setdigit p v => exact exec_ignores (.setdigit p v)
  | setdots e => exact exec_ignores (.setdots e)
  | render => exact ignores_of_update fun _ _ _ _ _ => ⟨_, _, _, rfl⟩

theorem acceptWord_ignores (w : CommandWord) : IgnoresRecordAndWords (acceptWord w) := by
  unfold acceptWord
  cases decode w with
  | command i => exact acceptCommand_ignores i
  | illegal why => exact reject_ignores .badCommand

/-- No row of R160 reads the record or the host's words. -/
theorem rowAction_ignores {n : Nat} {s u : State} (h : rowAction n s = some u) (e : Bool) (c : BitVec 2)
    (r : Option Response) (ws : List CommandWord) :
    ∃ r', rowAction n (withRecordAndWords e c r ws s) = some (withRecordAndWords e c r' ws u) := by
  unfold rowAction at h ⊢
  split at h <;> cases h <;> exact ⟨_, rfl⟩

theorem sequencerStep_ignores : IgnoresRecordAndWords sequencerStep := by
  intro s s' e c r ws h
  obtain ⟨u, hrow, rfl⟩ := sequencerStep_cases h
  obtain ⟨r', hrow'⟩ := rowAction_ignores hrow e c none ws
  refine ⟨e, c, r', ?_⟩
  rw [sequencerStep, endResponse_withRecordAndWords, withRecordAndWords_ph, hrow']
  rfl

/-! ### A step reads no record of a rejection (R197) -/

theorem stepWith_of_reset (run : CommandWord → State → Answer) {s : State} (hrst : s.rst = true) :
    stepWith run s = .next (resetStep s) := by
  rw [stepWith, if_pos hrst]

/-- At either level the step ignores the record when what becomes of a word does. -/
theorem stepWith_ignores_record {run : CommandWord → State → Answer} (hrun : ∀ w, IgnoresRecordAndWords (run w))
    {s t s' : State} (hsame : SameButRejection s t) (h : stepWith run s = .next s') :
    ∃ t', stepWith run t = .next t' ∧ SameButRejection s' t' := by
  obtain ⟨e, c, r, rfl⟩ : ∃ e c r, t = withRecordAndWords e c r s.pending s := ⟨_, _, _, hsame⟩
  obtain ⟨hrst, rfl⟩ | ⟨hrst, hph, hhost⟩ | ⟨hrst, hph, hseq⟩ := stepWith_cases h
  · exact ⟨_, stepWith_of_reset run hrst, rfl⟩
  · obtain ⟨hp, rfl⟩ | ⟨w, rest, hp, hword⟩ := hostStep_cases hhost
    · exact ⟨_, stepWith_of_idle run ⟨hrst, hph⟩ hp, rfl⟩
    · rw [stepWith_of_ready run (s := withRecordAndWords e c r s.pending s) ⟨hrst, hph⟩ hp]
      exact (hrun w).ignores_record hword e c none
  · rw [stepWith_of_busy run (s := withRecordAndWords e c r s.pending s) hrst hph]
    exact sequencerStep_ignores.ignores_record hseq e c r

/-- Settles O33, by the agent of the step at each level. -/
theorem rejectionRecordIsNeverRead : Obligations.RejectionRecordIsNeverRead :=
  fun _ _ _ hsame => ⟨stepWith_ignores_record runWord_ignores hsame, stepWith_ignores_record acceptWord_ignores hsame⟩

/-! ### A program without its rejected words (R194, R228) -/

theorem exec_rejects_or_ok {i : Instr} {s t : State} (h : exec i s = .next t) :
    (∃ c, t = reject c s) ∨ t.resp = some .ok := by
  cases i with
  | setdigit p v =>
    obtain ⟨-, rfl⟩ | ⟨q, -, -, rfl⟩ | ⟨q, x, -, -, rfl⟩ := execSetdigit_cases h
    · exact .inl ⟨_, rfl⟩
    · exact .inl ⟨_, rfl⟩
    · exact .inr rfl
  | setdots e => cases h; exact .inr rfl
  | render => cases h; exact .inr rfl

/-- A word the block does not accept is a rejection and nothing more (R194). -/
theorem runWord_of_rejected {w : CommandWord} {s t : State} (hacc : acceptedWord w = false)
    (h : runWord w s = .next t) : ∃ c, t = reject c s := by
  obtain ⟨i, -, hexec⟩ | ⟨why, -, rfl⟩ := runWord_cases h
  · obtain hreject | hok := exec_rejects_or_ok hexec
    · exact hreject
    · obtain ⟨r, hresp, -, hbad⟩ := runWord_answersWord h
      obtain ⟨c, rfl, -⟩ := hbad hacc
      simp [hok] at hresp
  · exact ⟨_, rfl⟩

/-- The simulation: the program without its rejected words, started with any record, keeps up with the program. -/
theorem run_simulated_without_rejected (ws : List CommandWord) :
    ∀ (s : State) (e : Bool) (c : BitVec 2) (r : Option Response), s.Ready → s.pending = ws →
      ∃ t e' c' r', run ws.length s = .next t ∧ t.pending = [] ∧
        run (ws.filter acceptedWord).length (withRecordAndWords e c r (ws.filter acceptedWord) s) =
          .next (withRecordAndWords e' c' r' [] t) := by
  induction ws with
  | nil => exact fun s e c r _ hp => ⟨s, e, c, r, rfl, hp, rfl⟩
  | cons w rest ih =>
    intro s e c r hr hp
    obtain ⟨u, hstep, hready, hpend⟩ := step_of_ready hr hp
    have hword : runWord w (takeCommand rest s) = .next u := (stepWith_of_ready runWord hr hp).symm.trans hstep
    have hrun := run_succ_of_step rest.length hstep
    cases hacc : acceptedWord w with
    | false =>
      obtain ⟨c₀, rfl⟩ := runWord_of_rejected hacc hword
      obtain ⟨t, e', c', r', hrest, hend, hfiltered⟩ := ih _ e c r hready hpend
      rw [List.filter_cons_of_neg (by simp [hacc])]
      exact ⟨t, e', c', r', hrun.trans hrest, hend, hfiltered⟩
    | true =>
      obtain ⟨e₁, c₁, r₁, hword'⟩ := runWord_ignores w _ _ e c none (rest.filter acceptedWord) hword
      obtain ⟨t, e', c', r', hrest, hend, hfiltered⟩ := ih u e₁ c₁ r₁ hready hpend
      have hr' : (withRecordAndWords e c r (w :: rest.filter acceptedWord) s).Ready := hr
      have hstep' : step (withRecordAndWords e c r (w :: rest.filter acceptedWord) s) =
          .next (withRecordAndWords e₁ c₁ r₁ (rest.filter acceptedWord) u) :=
        (stepWith_of_ready runWord hr' rfl).trans hword'
      rw [List.filter_cons_of_pos hacc]
      exact ⟨t, e', c', r', hrun.trans hrest, hend, (run_succ_of_step _ hstep').trans hfiltered⟩

/-- Settles O34, by the simulation started with the program's own record. -/
theorem rejectedWordsLeaveNoOtherTrace : Obligations.RejectedWordsLeaveNoOtherTrace := by
  intro s hr
  obtain ⟨t, e, c, r, hrun, hend, hfiltered⟩ := run_simulated_without_rejected s.pending s s.err s.cause s.resp hr rfl
  refine ⟨t, withRecordAndWords e c r [] t, hrun, hfiltered, ?_, rfl⟩
  rw [← hend]
  rfl

end Sys2Proof.Machine
end

section
/-! PROOFS of reset and the hazards (spec/70_reset_and_hazards.md R220 to R232). Only a render writes what the outside world
and the display receive, so a program of updates leaves it alone. A committed frame is that of a legal display state, which
shows at most one cathode a position. A reset between renders makes the lines fall or stay, which the receiver does not
act on. -/
namespace Sys2Proof.Machine

/-! ### Updates leave the outputs alone (R61, R225) -/

/-- What a render writes: the bus, the lines, the display, and the words they come from. -/
def State.outputs (s : State) : List OutEvent × Lines × Receiver × DisplayWord × DisplayWord :=
  (s.out, s.lines, s.rx, s.wa, s.wb)

section
variable {s t : State} {w : CommandWord}

/-- An update writes a digit, the dots or the record of a rejection (R110, R112, R194). -/
theorem exec_update_outputs {i : Instr} (hi : i ≠ .render) (h : exec i s = .next t) : t.outputs = s.outputs := by
  cases i with
  | setdigit p v => obtain ⟨-, rfl⟩ | ⟨q, -, -, rfl⟩ | ⟨q, x, -, -, rfl⟩ := execSetdigit_cases h <;> rfl
  | setdots e => cases h; rfl
  | render => exact absurd rfl hi

theorem runWord_outputs (hw : rendersWord w = false) (h : runWord w s = .next t) : t.outputs = s.outputs := by
  obtain ⟨i, hd, hexec⟩ | ⟨why, -, rfl⟩ := runWord_cases h
  · refine exec_update_outputs ?_ hexec
    rintro rfl
    simp [rendersWord, hd] at hw
  · rfl

theorem step_outputs {rest : List CommandWord} (hr : s.Ready) (hp : s.pending = w :: rest)
    (hw : rendersWord w = false) (h : step s = .next t) : t.outputs = s.outputs :=
  runWord_outputs (s := takeCommand rest s) hw ((stepWith_of_ready runWord hr hp).symm.trans h)

end

/-- A program without a render leaves the outputs as they were. -/
theorem run_outputs (ws : List CommandWord) (hws : ∀ w ∈ ws, rendersWord w = false) :
    ∀ s : State, s.Ready → s.pending = ws →
      ∃ t, run ws.length s = .next t ∧ t.pending = [] ∧ t.outputs = s.outputs := by
  induction ws with
  | nil => exact fun s _ hp => ⟨s, rfl, hp, rfl⟩
  | cons w rest ih =>
    intro s hr hp
    obtain ⟨hw, hrest⟩ := List.forall_mem_cons.mp hws
    obtain ⟨u, hstep, hready, hpend⟩ := step_of_ready hr hp
    obtain ⟨t, hrun, hend, hout⟩ := ih hrest u hready hpend
    exact ⟨t, (run_succ_of_step _ hstep).trans hrun, hend, hout.trans (step_outputs hr hp hw hstep)⟩

/-- Settles O29, word by word along the program. -/
theorem updatesAloneLeaveTheDisplay : Obligations.UpdatesAloneLeaveTheDisplay := by
  intro s hr hws
  obtain ⟨t, hrun, hend, houtputs⟩ := run_outputs s.pending hws s hr rfl
  simp only [State.outputs, Prod.mk.injEq] at houtputs
  exact ⟨t, hrun, hend, houtputs⟩

/-! ### A committed frame shows a legal display state (R176, R232) -/

theorem eventsBefore_le (n : Nat) : eventsBefore n ≤ 9 := by
  unfold eventsBefore
  split <;> decide

/-- A render in progress has yet to raise the latch (R136, R160). -/
theorem latchHigh_not_mem_partialEvents (s : State) : OutEvent.latchHigh ∉ partialEvents s := by
  have hsent : partialEvents s ⊆ (frameEvents s.wa s.wb).take 9 :=
    (List.take_sublist_take_left (eventsBefore_le _)).subset
  exact fun hmem => by simpa [frameEvents] using hsent hmem

/-- Once the latch was raised, the receiver drives the frame of a legal display state. -/
theorem State.Inv.exists_shown {s : State} (hinv : s.Inv) (hcommit : .latchHigh ∈ s.out) :
    ∃ d dots, Shown s.rx.q d dots := by
  obtain ⟨-, shown, h⟩ := hinv
  have hne : shown ≠ [] := by
    rintro rfl
    rw [h.out] at hcommit
    exact latchHigh_not_mem_partialEvents s hcommit
  obtain ⟨x, hx⟩ : ∃ x, shown.getLast? = some x := ⟨_, List.getLast?_eq_some_getLast hne⟩
  refine ⟨x.1, x.2, ?_⟩
  rw [h.driven x hx]
  exact frameOf_shown (h.legal x (List.mem_of_getLast? hx)) x.2

/-- A lit cathode tells the digit of its position. -/
theorem Shown.cathode_unique {q : Frame} {d : Digits} {dots : Bool} (h : Shown q d dots) {p : Position} {j k : Fin 10}
    (hj : cathodeOn q p j = true) (hk : cathodeOn q p k = true) : j = k :=
  Fin.ext (((h.1 p j).mp hj).symm.trans ((h.1 p k).mp hk))

/-- Settles O51: the display shows one digit a position. -/
theorem atMostOneCathodePerPosition : Obligations.AtMostOneCathodePerPosition := by
  intro s hinv hcommit p j k hj hk
  obtain ⟨d, dots, hshown⟩ := hinv.exists_shown hcommit
  exact hshown.cathode_unique hj hk

/-! ### The receiver during a reset between renders (R175, R221) -/

/-- A receiver that sees no line rise, and whose outputs follow already if they do, stays as it is. -/
theorem onLines_of_no_rise {sense : LatchSense} {before after : Lines} {r : Receiver}
    (hclock : after.sck = false) (hlatch : after.latch = true → before.latch = true)
    (hfollows : sense = .levelHigh → after.latch = true → r.q = r.sr) : r.onLines sense before after = r := by
  have hsettled : r.follow sense after.latch = r := by
    cases sense with
    | risingEdge => simp [Receiver.follow]
    | levelHigh => exact follow_of_settled _ (hfollows rfl)
  have hno_rise : ¬(before.latch = false ∧ after.latch = true) :=
    fun ⟨hlow, hhigh⟩ => by simp [hlatch hhigh] at hlow
  simp only [Receiver.onLines, hclock, if_neg hno_rise, hsettled, Bool.false_eq_true, and_false, if_false]

/-- Between renders the latch line is high, or at its reset level before the first render (R26). -/
theorem State.Shows.latch_of_idle {s : State} {shown : List (Digits × Bool)} (h : s.Shows shown)
    (hidle : s.ph.toNat ≤ 1) : s.latch = true ∨ s.latch = Config.latchReset := by
  by_cases hshown : shown = []
  · exact .inr (h.latchReset hidle hshown)
  · exact .inl (h.latchHigh hidle hshown)

/-- A reset between renders raises no line, so that the receiver keeps what it holds (log 9). -/
theorem resetStep_rx_of_idle {s : State} (hinv : s.Inv) (hph : s.ph = 0) : (resetStep s).rx = s.rx := by
  obtain ⟨-, shown, h⟩ := hinv
  have hlatch : Config.latchReset = true → s.latch = true := fun hhigh =>
    (h.latch_of_idle (by simp [hph])).elim id fun hreset => hreset.trans hhigh
  have hkept : s.rx.onLines Config.latchSense s.lines State.reset.lines = s.rx :=
    onLines_of_no_rise rfl hlatch fun hsense hhigh => h.follows hsense (hlatch hhigh)
  rw [resetStep, if_pos hph, hkept]

/-- Settles O53: at both levels the step is the model's `resetStep`. -/
theorem resetStep_gives_reset_values : Obligations.ResetStep :=
  fun s hrst => ⟨resetStep s, stepWith_of_reset runWord hrst, stepWith_of_reset acceptWord hrst, rfl,
    resetStep_rx_of_idle⟩

end Sys2Proof.Machine
end
